-- ==== Sys2Proof/Word.lean ====
section
/-! DEFINITION. The plain data words of the BS204: bytes, 32-bit words, text, tags, and the fixed-size tables
(four source ports, eight region indexes) that the block's registers are made of. -/

namespace Sys2Proof

/-- One byte of a binary format or of a serial line (00_scope.md section 5.2). -/
abbrev Byte := BitVec 8

/-- A 32-bit value: a memory-port word, an image id, a CRC-32 (00_scope.md section 5.2). -/
abbrev Word32 := BitVec 32

/-- Printable text as the part receives and writes it (R169 to R179). -/
abbrev Text := List Char

/-- The two hexadecimal digits of a request tag, as their value 00 to FF (R176). -/
abbrev Tag := BitVec 8

/-- The four source ports (R1, R2). -/
inductive Port where
  | sp0 | sp1 | sp2 | sp3
  deriving DecidableEq, Repr

/-- The number a port is written with, 0 to 3. -/
def Port.num : Port → Nat
  | .sp0 => 0 | .sp1 => 1 | .sp2 => 2 | .sp3 => 3

/-- The port of a number, when it is one of 0 to 3. -/
def Port.ofNat? : Nat → Option Port
  | 0 => some .sp0 | 1 => some .sp1 | 2 => some .sp2 | 3 => some .sp3 | _ => none

/-- The ports in port order. -/
def Port.all : List Port := [.sp0, .sp1, .sp2, .sp3]

/-- One value for each source port. -/
structure Four (α : Type) where
  p0 : α
  p1 : α
  p2 : α
  p3 : α
  deriving DecidableEq, Repr

/-- The value kept for one port. -/
def Four.get {α : Type} (t : Four α) : Port → α
  | .sp0 => t.p0 | .sp1 => t.p1 | .sp2 => t.p2 | .sp3 => t.p3

/-- The table with one port's value replaced. -/
def Four.set {α : Type} (t : Four α) (p : Port) (x : α) : Four α :=
  match p with
  | .sp0 => { t with p0 := x }
  | .sp1 => { t with p1 := x }
  | .sp2 => { t with p2 := x }
  | .sp3 => { t with p3 := x }

/-- The eight region indexes of the memory map, 1 to 8 (R66). -/
inductive Idx where
  | r1 | r2 | r3 | r4 | r5 | r6 | r7 | r8
  deriving DecidableEq, Repr

/-- The number a region index is written with, 1 to 8. -/
def Idx.num : Idx → Nat
  | .r1 => 1 | .r2 => 2 | .r3 => 3 | .r4 => 4 | .r5 => 5 | .r6 => 6 | .r7 => 7 | .r8 => 8

/-- The region index of a number, when it is one of 1 to 8. -/
def Idx.ofNat? : Nat → Option Idx
  | 1 => some .r1 | 2 => some .r2 | 3 => some .r3 | 4 => some .r4
  | 5 => some .r5 | 6 => some .r6 | 7 => some .r7 | 8 => some .r8 | _ => none

/-- The region indexes in ascending order. -/
def Idx.all : List Idx := [.r1, .r2, .r3, .r4, .r5, .r6, .r7, .r8]

/-- One value for each region index. -/
structure Eight (α : Type) where
  i1 : α
  i2 : α
  i3 : α
  i4 : α
  i5 : α
  i6 : α
  i7 : α
  i8 : α
  deriving DecidableEq, Repr

/-- The value kept for one region index. -/
def Eight.get {α : Type} (t : Eight α) : Idx → α
  | .r1 => t.i1 | .r2 => t.i2 | .r3 => t.i3 | .r4 => t.i4
  | .r5 => t.i5 | .r6 => t.i6 | .r7 => t.i7 | .r8 => t.i8

/-- The table with one index's value replaced. -/
def Eight.set {α : Type} (t : Eight α) (i : Idx) (x : α) : Eight α :=
  match i with
  | .r1 => { t with i1 := x }
  | .r2 => { t with i2 := x }
  | .r3 => { t with i3 := x }
  | .r4 => { t with i4 := x }
  | .r5 => { t with i5 := x }
  | .r6 => { t with i6 := x }
  | .r7 => { t with i7 := x }
  | .r8 => { t with i8 := x }

/-- The table that holds the same value at every index. -/
def Eight.const {α : Type} (x : α) : Eight α := ⟨x, x, x, x, x, x, x, x⟩

/-- The two serial lines (Record Lines: Console and Target). -/
inductive Line where
  | console | target
  deriving DecidableEq, Repr

end Sys2Proof
end

