-- ==== Sys2Proof/Syntax.lean ====
section
/-! DEFINITION. The commands of the BS204: one constructor of `Instr` for each row of spec/opcode_table.json, with the
row's operands. A verb's operands are the tag and the argument words of its request line, as characters, so that every
form of the request (a missing argument, a word of the wrong form) is a command too. -/

namespace Sys2Proof

/-- What a serial flash device answered in one exchange (R14). `identify` carries the three bytes of the identify
answer and stands for a device whose status then showed ready; `block` the data of a read and its last status. -/
inductive FlashAnswer where
  | identify (b0 b1 b2 : Byte)
  | block (data : List Byte) (uncorrectable : Bool)
  deriving DecidableEq, Repr

/-- What a removable card answered in one exchange (R16). `initialized` carries the capacity the card reports in
512-byte blocks; `stillInitializing` is a card that answers but is not done when the 200 ms timer expires (DEDUCED,
notes/assumptions/12.md). -/
inductive CardAnswer where
  | initialized (capacity : Word32)
  | rejected
  | stillInitializing
  | block (data : List Byte) (checkWordCorrect : Bool)
  | errorMark
  | busyInitializing
  deriving DecidableEq, Repr

/-- What the shared block store answered in one exchange: the status byte by its meaning and what followed it (R17). -/
inductive BlockAnswer where
  | noUnit
  | spinningUp
  | readyCapacity (capacity : Word32)
  | readyBlock (data : List Byte)
  | unitError
  | otherStatus
  deriving DecidableEq, Repr

/-- How a write of the settings memory ended before its timer (R163). -/
inductive WriteEnd where
  | readBackEqual
  | readBackDiffers
  | writeError
  deriving DecidableEq, Repr

/-- The commands. The docstring of each gives its row's mnemonic and rule. -/
inductive Instr where
  /-- POWER_ON (R138) -/
  | powerOn
  /-- PIN_RESET (R138) -/
  | pinReset
  /-- SETTINGS_SETTLED (R161) -/
  | settingsSettled
  /-- INIT_TIMER_EXPIRY (R139) -/
  | initTimerExpiry
  /-- FLASH_EXCHANGE_END (R14) -/
  | flashExchangeEnd (p : Port) (a : FlashAnswer)
  /-- CARD_EXCHANGE_END (R16) -/
  | cardExchangeEnd (p : Port) (a : CardAnswer)
  /-- BLOCK_EXCHANGE_END (R17) -/
  | blockExchangeEnd (p : Port) (a : BlockAnswer)
  /-- LINK_ANSWER_FRAME (R19): the bytes received on the port, up to the end of the frame -/
  | linkAnswerFrame (p : Port) (bytes : List Byte)
  /-- EXCHANGE_TIMEOUT (R6) -/
  | exchangeTimeout (p : Port)
  /-- CARD_SENSE_CHANGE (R15): the new level of the sense input, true when it shows a card -/
  | cardSenseChange (p : Port) (card : Bool)
  /-- CARD_INSERTED (R15): the end of the 50 ms hold of a level that shows a card -/
  | cardInserted (p : Port)
  /-- CARD_REMOVED (R15): the end of the 50 ms hold of a level that shows no card -/
  | cardRemoved (p : Port)
  /-- QUESTION_TIMER_EXPIRY (R54) -/
  | questionTimerExpiry
  /-- ROUND_WAIT_EXPIRY (R50) -/
  | roundWaitExpiry
  /-- WINDOW_EXPIRY (R124) -/
  | windowExpiry
  /-- MEMORY_RESPONSE (R76): MRDY, MERR and the word on MAD0 to MAD31 -/
  | memoryResponse (mrdy merr : Bool) (word : Word32)
  /-- RESPONSE_TIMEOUT (R76) -/
  | responseTimeout
  /-- SAVE_WRITE_END (R163) -/
  | saveWriteEnd (e : WriteEnd)
  /-- SAVE_TIMER_EXPIRY (R163) -/
  | saveTimerExpiry
  /-- RECEIVED_BYTE (R170) -/
  | receivedByte (l : Line) (b : Byte)
  /-- FRAMING_ERROR (R169) -/
  | framingError (l : Line)
  /-- BREAK (R175) -/
  | lineBreak
  /-- BAD_LINE (R173) -/
  | badLine (l : Line)
  /-- LINE_TOO_LONG (R173) -/
  | lineTooLong (l : Line)
  /-- UNKNOWN_VERB (R176): the words after the tag; none of them for a line that holds a tag alone -/
  | unknownVerb (l : Line) (tag : Option Tag) (words : List Text)
  /-- ABORT (R148) -/
  | abort (tag : Option Tag) (args : List Text)
  /-- ANSWER (R53) -/
  | answer (tag : Option Tag) (args : List Text)
  /-- BOOT (R131) -/
  | boot (tag : Option Tag) (args : List Text)
  /-- CHECK (R86) -/
  | check (tag : Option Tag) (args : List Text)
  /-- DEFAULTS (R165) -/
  | defaults (tag : Option Tag) (args : List Text)
  /-- DEFECTS (R97) -/
  | defects (tag : Option Tag) (args : List Text)
  /-- GET (R159) -/
  | get (tag : Option Tag) (args : List Text)
  /-- GO (R130) -/
  | go (tag : Option Tag) (args : List Text)
  /-- HOLD (R128) -/
  | hold (tag : Option Tag) (args : List Text)
  /-- LOG (R58) -/
  | log (tag : Option Tag) (args : List Text)
  /-- MAP_PUT (R68): the words after MAP PUT -/
  | mapPut (tag : Option Tag) (args : List Text)
  /-- MAP_DEL (R70): the words after MAP DEL -/
  | mapDel (tag : Option Tag) (args : List Text)
  /-- MAP_LIST (R71): the words after MAP LIST -/
  | mapList (tag : Option Tag) (args : List Text)
  /-- ORDER_PUT (R39): the words after ORDER PUT -/
  | orderPut (tag : Option Tag) (args : List Text)
  /-- ORDER_DEL (R40): the words after ORDER DEL -/
  | orderDel (tag : Option Tag) (args : List Text)
  /-- ORDER_MOVE (R41): the words after ORDER MOVE -/
  | orderMove (tag : Option Tag) (args : List Text)
  /-- ORDER_LIST (R42): the words after ORDER LIST -/
  | orderList (tag : Option Tag) (args : List Text)
  /-- PEEK (R78) -/
  | peek (tag : Option Tag) (args : List Text)
  /-- POKE (R80) -/
  | poke (tag : Option Tag) (args : List Text)
  /-- PORTS (R20) -/
  | ports (tag : Option Tag) (args : List Text)
  /-- PROBE (R21) -/
  | probe (tag : Option Tag) (args : List Text)
  /-- RESTART (R152) -/
  | restart (tag : Option Tag) (args : List Text)
  /-- SAVE (R162) -/
  | save (tag : Option Tag) (args : List Text)
  /-- SEEK (R63) -/
  | seek (tag : Option Tag) (args : List Text)
  /-- SET (R156) -/
  | set (tag : Option Tag) (args : List Text)
  /-- SPENT (R60) -/
  | spent (tag : Option Tag) (args : List Text)
  /-- STAGE (R113) -/
  | stage (tag : Option Tag) (args : List Text)
  /-- STAT (R151), on either line -/
  | stat (l : Line) (tag : Option Tag) (args : List Text)
  /-- VOLUME (R35) -/
  | volume (tag : Option Tag) (args : List Text)
  /-- ALIVE (R121) -/
  | alive (tag : Option Tag) (args : List Text)
  /-- REVERT (R123) -/
  | revert (tag : Option Tag) (args : List Text)
  /-- HAND (R127) -/
  | hand (tag : Option Tag) (args : List Text)
  /-- REBOOT (R127) -/
  | reboot (tag : Option Tag) (args : List Text)
  /-- CONSOLE_RECORD_SENT (R182) -/
  | consoleRecordSent
  /-- TARGET_RECORD_SENT (R185) -/
  | targetRecordSent
  /-- RETURN_TO_MARKING (R175) -/
  | returnToMarking (l : Line)
  /-- TARGET_LINE_SPACING_HELD (R175) -/
  | targetLineSpacingHeld
  /-- LINK_REQUEST_SENT (R18) -/
  | linkRequestSent (p : Port)
  /-- MALFORMED_TAG (R176): the characters after the # of the first word, and the words after it -/
  | malformedTag (l : Line) (rest : Text) (words : List Text)
  deriving DecidableEq, Repr

end Sys2Proof
end

