-- ==== Sys2Proof/Decode.lean ====
section
/-! DEFINITION. The reading of a table word as a command. The rows of spec/opcode_table.json give no bits: the BS204 takes
verbs as text lines and events at its pins, not as encoded words. -/

namespace Sys2Proof

/-- The command that a word of `nbits` bits spells by the table: none, since no row has bits. -/
def decodeTableWord (_nbits _w : Nat) : Option Instr := none

end Sys2Proof
end

