-- ==== Sys2Proof/Config.lean ====
section
/-! DEFINITION. The fixed numbers of the BS204: the sizes of its lists and queues, its fixed times and rates.
Every value is the spec's own; the spec leaves no value of the block open, so this file holds no free value. -/

namespace Sys2Proof.Config

/-- Length of a block on every source kind (00_scope.md section 5.4). -/
def blockBytes : Nat := 512
/-- Entries the boot order list may hold (R38). -/
def orderCapacity : Nat := 12
/-- Records the attempt log may hold (R56). -/
def logCapacity : Nat := 32
/-- Records the spent list may hold (R59). -/
def spentCapacity : Nat := 8
/-- Records the defect list may hold (R90). -/
def defectCapacity : Nat := 16
/-- Notices the notice queue may hold (R180). -/
def noticeCapacity : Nat := 16
/-- Complete lines a line queue may hold (R172). -/
def lineCapacity : Nat := 2
/-- Characters a partial line may keep (R170). -/
def lineLength : Nat := 80
/-- Consecutive timeouts that put a port in FAULT (R12). -/
def faultCount : Nat := 3
/-- The INIT timer in milliseconds (R138). -/
def initMs : Nat := 300
/-- The hold time of a card sense change in milliseconds (R15). -/
def senseHoldMs : Nat := 50
/-- The memory port's response limit in microseconds (R76). -/
def responseUs : Nat := 16
/-- The save timer in milliseconds (R163). -/
def saveMs : Nat := 150
/-- The console rate in baud until the settings are settled (R169, R161). -/
def startRate : Nat := 38400
/-- The fixed rate of a LINK port's serial line (R1). -/
def linkRate : Nat := 460800
/-- A page of a memory check in bytes, and the unit of region bases and sizes (R66, R82). -/
def pageBytes : Nat := 0x1000
/-- The end of the target's 32-bit address space (R66). -/
def addressEnd : Nat := 0x100000000
/-- Length of the handoff record in bytes (R24). -/
def handoffBytes : Nat := 64

end Sys2Proof.Config
end

