-- ==== Sys2Proof/Machine/Types.lean ====
section
/-! DEFINITION. The registers, tables, lists and records each block of the BS204 holds, as plain data
(00_scope.md section 3, and the state tables of each chapter). -/

namespace Sys2Proof.Machine

/-! ### Settings (SST) -/

/-- The kinds of a source port (R1); `unused` is the kind NONE. -/
inductive PortKind where
  | unused | flash | card | block | link
  deriving DecidableEq, Repr

/-- The unknown policy of a boot order entry (R38). -/
inductive Policy where
  | skip | ask | take
  deriving DecidableEq, Repr

/-- One entry of the boot order list (R38). -/
structure BootEntry where
  port : Port
  first : Nat
  last : Nat
  tries : Nat
  policy : Policy
  lastResort : Bool
  deriving DecidableEq, Repr

/-- One region of the memory map: base, size and the attributes LOAD, CHECK and PRESERVE (R66). -/
structure Region where
  base : Nat
  size : Nat
  load : Bool
  check : Bool
  preserve : Bool
  deriving DecidableEq, Repr

/-- AUTOCHECK and the kinds a check may be asked with (R82, R154); `nothing` is AUTOCHECK NONE. -/
inductive AutoCheck where
  | nothing | quick | walk
  deriving DecidableEq, Repr

/-- CHECKFAIL (R154). -/
inductive CheckFail where
  | halt | carryOn
  deriving DecidableEq, Repr

/-- The working settings: the named settings, the boot order list and the memory map (R154). -/
structure Settings where
  conrate : Nat
  tgtrate : Nat
  autostart : Bool
  autocheck : AutoCheck
  checkfail : CheckFail
  shortwait : Nat
  longwait : Nat
  maxrounds : Nat
  askwait : Nat
  confirm : Nat
  budget : Nat
  verify : Bool
  rawbase : Nat
  rawblocks : Nat
  retries : Nat
  kinds : Four PortKind
  order : List BootEntry
  map : Eight (Option Region)
  deriving DecidableEq, Repr

/-- The two areas of the settings memory (R160). -/
inductive Area where
  | a | b
  deriving DecidableEq, Repr

/-- Where the working settings were last loaded from as a whole (R166). -/
inductive Source where
  | a | b | defaults
  deriving DecidableEq, Repr

/-- A stored copy: generation, settings and the CRC-32 over both (R160). -/
structure StoredCopy where
  generation : Nat
  settings : Settings
  crc : Word32
  deriving DecidableEq, Repr

/-- The save in flight: target area, new generation, snapshot and the request's tag (R162). -/
structure Save where
  area : Area
  generation : Nat
  snapshot : Settings
  tag : Option Tag
  deriving DecidableEq, Repr

/-- The settings store. `areaA` and `areaB` are the nonvolatile settings memory: the copy an area holds, none when it is
erased, was cut off or failed. `recordA` and `recordB` are the copy records: the generation of a VALID copy, none for
INVALID. The save timer runs exactly while `saving` is present (R160 to R168). -/
structure Sst where
  settings : Settings
  areaA : Option StoredCopy
  areaB : Option StoredCopy
  recordA : Option Nat
  recordB : Option Nat
  source : Source
  saving : Option Save
  deriving DecidableEq, Repr

/-! ### Source ports (SPC) -/

/-- The states of a port (R2). -/
inductive PortState where
  | off | idle | busy | fault
  deriving DecidableEq, Repr

inductive Presence where
  | unknown | absent | present
  deriving DecidableEq, Repr

inductive Readiness where
  | ready | notReady
  deriving DecidableEq, Repr

/-- A unit record (R3). -/
structure UnitRecord where
  presence : Presence
  readiness : Readiness
  capacity : Option Nat
  deriving DecidableEq, Repr

/-- The operation in flight: PROBE, or READ with its block, the RETRIES it began with and the exchanges that have ended
(R2, R9). -/
inductive PortOp where
  | probe
  | read (block retries made : Nat)
  deriving DecidableEq, Repr

/-- The requester to which an operation's result goes (R2, section 1.3): the search engine, a BOOT or STAGE in its steps
1 to 4, the loader, and the PROBE and VOLUME verbs. -/
inductive Requester where
  | search | manualStart | loader | probeVerb | volumeVerb
  deriving DecidableEq, Repr

/-- What a port is exchanging (R2, R6): the operation, the unit, the requester, the exchange timer in milliseconds while
it runs, and on a LINK port the request frame and the answer bytes assembled so far (R18). -/
structure InFlight where
  op : PortOp
  unit : Nat
  requester : Requester
  timer : Option Nat
  frame : List Byte
  received : List Byte
  deriving DecidableEq, Repr

/-- One port entry (R2). `cardPresent` is the card-present flag of a CARD port, false for other kinds. `hold` is a sense
change whose 50 ms hold runs: the level it shows (R15). -/
structure PortEntry where
  kind : PortKind
  state : PortState
  count : Nat
  units : List UnitRecord
  cardPresent : Bool
  op : Option InFlight
  hold : Option Bool
  deriving DecidableEq, Repr

/-- The source port controller: the port table, absent until the settings are settled (R4), and the level of each port's
sense input, true when it shows a card (R15). -/
structure Spc where
  ports : Option (Four PortEntry)
  sense : Four Bool
  deriving DecidableEq, Repr

/-- The result of one exchange (sections 1.5.1 to 1.5.4). -/
inductive ExchangeResult where
  | absent
  | notReady
  | ready (capacity : Nat)
  | timeout
  | data (bytes : List Byte)
  | readFault
  | mediaLost
  deriving DecidableEq, Repr

/-- The result of a PROBE (R7). -/
inductive ProbeResult where
  | absent | notReady | ready (capacity : Nat) | timeout
  deriving DecidableEq, Repr

/-- The result of a READ (R8); every result but DATA carries the block. -/
inductive ReadResult where
  | data (bytes : List Byte)
  | notReady (block : Nat)
  | readFault (block : Nat)
  | outOfRange (block : Nat)
  | mediaLost (block : Nat)
  deriving DecidableEq, Repr

/-- The one result an operation delivers (R6). -/
inductive OpResult where
  | probe (r : ProbeResult)
  | read (r : ReadResult)
  deriving DecidableEq, Repr

/-! ### Volumes and images (VCL) -/

/-- The names of the classifier's checks (R28 to R34). -/
inductive CheckName where
  | signature | headerCrc | version | volumeClass | imageId | segmentCount | length | targetAlign | source | entry
  | handoffAlign | notInLoad | overlap | handoffPlace | defective | capacity
  deriving DecidableEq, Repr

/-- A segment record of a parsed image (R32); no source block means FILL. -/
structure Segment where
  index : Nat
  target : Nat
  length : Nat
  source : Option Nat
  crc : Option Word32
  region : Idx
  deriving DecidableEq, Repr

/-- The parsed image record (R32). -/
structure Image where
  port : Port
  unit : Nat
  kind : PortKind
  raw : Bool
  imageId : Word32
  entry : Nat
  handoff : Option Nat
  label : Option (List Byte)
  confirm : Nat
  segments : List Segment
  deriving DecidableEq, Repr

/-- The seven classifications (R27). -/
inductive VolumeClass where
  | blank | unknown | damaged | dataOnly | mapConflict | memoryDefective | bootable
  deriving DecidableEq, Repr

/-- A classification result (R27). -/
structure Classification where
  volume : VolumeClass
  check : Option CheckName := none
  segment : Option Nat := none
  handoffMark : Bool := false
  region : Option Idx := none
  imageId : Option Word32 := none
  image : Option Image := none
  deriving DecidableEq, Repr

/-! ### Search (SRE) -/

/-- The outcomes of an attempt-log record (R56). -/
inductive AttemptOutcome where
  | notPresent | notReady | blank | dataOnly | unknownSkipped | unknownDeclined | unknownTimeout | spent | budget
  | loaded | released | confirmed | confirmTimeout | reverted | aborted
  | readFault | mediaLost | damaged | memoryFault | mapConflict | memoryDefective
  deriving DecidableEq, Repr

/-- The attempt fields: round, entry, port and unit (R45, R100). -/
structure AttemptFields where
  round : Nat
  entry : Nat
  port : Port
  unit : Nat
  deriving DecidableEq, Repr

/-- An attempt-log record (R56). -/
structure AttemptRecord where
  seq : Nat
  fields : AttemptFields
  outcome : AttemptOutcome
  detail : Option Nat
  imageId : Option Word32
  deriving DecidableEq, Repr

/-- A candidate key (R47, R59). -/
structure CandidateKey where
  port : Port
  unit : Nat
  imageId : Word32
  deriving DecidableEq, Repr

/-- The origin of a search run (R43). -/
inductive Origin where
  | start | seek | fallback
  deriving DecidableEq, Repr

/-- The boot reasons (R24, R101). -/
inductive BootReason where
  | auto | manualBoot | manualGo | fallback
  deriving DecidableEq, Repr

/-- The two passes of a round (R44). -/
inductive Pass where
  | normal | lastResort
  deriving DecidableEq, Repr

/-- Where a run stands: what it waits for (R45, R47, R49, R52). `block0` carries the probe's capacity. -/
inductive RunStage where
  | probing
  | block0 (capacity : Nat)
  | question
  | loading
  | waiting
  deriving DecidableEq, Repr

/-- The held block of a pending question: block 0, the probe's capacity and the image id the classifier gave (R52). -/
structure HeldBlock where
  block : List Byte
  capacity : Nat
  imageId : Option Word32
  deriving DecidableEq, Repr

/-- The search run state (R43). -/
structure SearchRun where
  origin : Origin
  tag : Option Tag
  round : Nat
  pass : Pass
  entry : Nat
  unit : Nat
  triesUsed : Nat
  held : Option HeldBlock
  stage : RunStage
  deriving DecidableEq, Repr

/-- The pending question (R52). -/
structure Question where
  id : Nat
  port : Port
  unit : Nat
  deriving DecidableEq, Repr

/-- The search engine (R43, R52, R56, R59, R61, R65). The two timers hold their seconds while they run. -/
structure Sre where
  run : Option SearchRun
  lastRound : Nat
  log : List AttemptRecord
  nextSeq : Nat
  spent : List CandidateKey
  releaseCount : Nat
  question : Option Question
  questionId : Nat
  questionTimer : Option Nat
  waitTimer : Option Nat
  deriving DecidableEq, Repr

/-! ### Memory map and memory port (MMP) -/

/-- The health of a region (R73). -/
inductive Health where
  | unchecked | good | defective
  deriving DecidableEq, Repr

/-- The two transactions of the memory port (R74). -/
inductive TxnKind where
  | read
  | write (word : Word32)
  deriving DecidableEq, Repr

/-- The requesters of the memory port (R74). -/
inductive TxnRequester where
  | checker | loader | peek | poke
  deriving DecidableEq, Repr

/-- The transaction in flight (R74). The response timer runs exactly while one is in flight (R76). -/
structure Transaction where
  kind : TxnKind
  address : Nat
  requester : TxnRequester
  deriving DecidableEq, Repr

/-- The memory map's health and the memory port's transaction state: absent is IDLE (R73, R74). -/
structure Mmp where
  health : Eight Health
  txn : Option Transaction
  deriving DecidableEq, Repr

/-- How a transaction that went out on the bus ended (R76); DONE carries the word read, and 0 is carried for a WRITE. -/
inductive TxnOutcome where
  | done (word : Word32)
  | noResponse
  | busError
  deriving DecidableEq, Repr

/-- The refusals of a memory-port request, with their codes (R75). -/
inductive TxnRefusal where
  | targetRunning | misaligned | outsideMap | preserved
  deriving DecidableEq, Repr

/-! ### Memory checker (MCK) -/

inductive CheckKind where
  | quick | walk | read
  deriving DecidableEq, Repr

inductive CheckOrigin where
  | verb | auto
  deriving DecidableEq, Repr

inductive DefectKind where
  | mismatch | unstable | noResponse | busError
  deriving DecidableEq, Repr

/-- A defect record (R90). -/
structure Defect where
  address : Nat
  kind : DefectKind
  expected : Option Word32
  observed : Option Word32
  pass : Nat
  deriving DecidableEq, Repr

/-- The check run state (R85). `phase` is 0 for READ; `firstRead` is the word of the first of a READ check's two reads,
while the second is made (R84); `marks` lists the regions with a region defect mark of YES. -/
structure CheckRun where
  origin : CheckOrigin
  tag : Option Tag
  asked : CheckKind
  regions : List Idx
  passes : Nat
  stop : Bool
  pass : Nat
  current : Idx
  effective : CheckKind
  phase : Nat
  cursor : Nat
  written : Bool
  marks : List Idx
  firstRead : Option Word32
  deriving DecidableEq, Repr

/-- The memory checker (R85, R90). -/
structure Mck where
  run : Option CheckRun
  defects : List Defect
  dropped : Nat
  deriving DecidableEq, Repr

/-! ### Loader (LDR) -/

/-- The image state (R98); `nothing` is NONE. -/
inductive ImageState where
  | nothing | partly | staged | released
  deriving DecidableEq, Repr

/-- The requesters of a load (R100). -/
inductive LoadRequester where
  | search | boot | stage
  deriving DecidableEq, Repr

inductive LoadStage where
  | write | verify | handoff
  deriving DecidableEq, Repr

/-- Where a load in progress stands (R100): the stage, the segment in progress, the next source block, the address of the
word in progress, the running CRC, the bytes of the block still to be written (R103), and the handoff record being written
(R108). -/
structure LoadCursor where
  stage : LoadStage
  segment : Nat
  block : Nat
  address : Nat
  crc : Word32
  buffer : List Byte
  record : List Byte
  deriving DecidableEq, Repr

/-- The load plan (R100). `written` holds the written CRC of each DATA segment by its index. -/
structure LoadPlan where
  image : Image
  fields : AttemptFields
  reason : BootReason
  requester : LoadRequester
  tag : Option Tag
  verify : Bool
  cursor : Option LoadCursor
  written : List (Nat × Word32)
  deriving DecidableEq, Repr

/-- The last handoff record written: its address and its 64 bytes (R100). -/
structure Handoff where
  address : Nat
  bytes : List Byte
  deriving DecidableEq, Repr

/-- The loader (R98, R100). -/
structure Ldr where
  image : ImageState
  plan : Option LoadPlan
  handoff : Option Handoff
  deriving DecidableEq, Repr

/-- How a load ended (section 6.3). -/
inductive LoadEnd where
  | loaded
  | failed (o : AttemptOutcome) (detail : Nat)
  | aborted
  deriving DecidableEq, Repr

/-! ### Release unit (RLU) -/

/-- TRESET: asserted holds the target, freed lets it run (R116). -/
inductive Treset where
  | asserted | freed
  deriving DecidableEq, Repr

inductive ReleaseKind where
  | automatic | manual
  deriving DecidableEq, Repr

inductive WindowPhase where
  | confirmWait | running
  deriving DecidableEq, Repr

/-- The released-candidate record (R117); no window means NONE. -/
structure Released where
  key : CandidateKey
  fields : AttemptFields
  kind : ReleaseKind
  tag : Option Tag
  entry : Nat
  handoff : Option Nat
  window : Option Nat
  phase : WindowPhase
  deriving DecidableEq, Repr

/-- The release unit (R116, R117). The window timer holds its seconds while it runs. -/
structure Rlu where
  treset : Treset
  released : Option Released
  windowTimer : Option Nat
  deriving DecidableEq, Repr

/-! ### Start-up supervisor (SUP) -/

inductive ResetCause where
  | powerOn | pin | restart
  deriving DecidableEq, Repr

inductive AutoPhase where
  | check | search | question | load | wait
  deriving DecidableEq, Repr

/-- The verbs that hold the slot in MANUAL BUSY (R135). -/
inductive SlotVerb where
  | check | stage | boot | go | probe | volume | peek | poke
  deriving DecidableEq, Repr

inductive HaltReason where
  | check | budget
  deriving DecidableEq, Repr

/-- The mode with its phase (R135); MANUAL with no verb is MANUAL IDLE. -/
inductive Mode where
  | init
  | auto (phase : AutoPhase)
  | manual (busy : Option SlotVerb)
  | targetRun (phase : WindowPhase)
  | halted (reason : HaltReason)
  deriving DecidableEq, Repr

/-- The holders of the operation slot (R137). -/
inductive Holder where
  | automaticCheck
  | searchRun
  | verb (v : SlotVerb) (tag : Option Tag)
  deriving DecidableEq, Repr

/-- Where a BOOT or STAGE stands (R114). -/
inductive StartStage where
  | probing
  | block0 (capacity : Nat)
  | loading
  deriving DecidableEq, Repr

/-- The word line of one ended READ of a PEEK (R79). -/
inductive PeekWord where
  | word (w : Word32)
  | code (c : Nat)
  deriving DecidableEq, Repr

/-- What the verb that holds the slot is doing (R21, R35, R78, R80, R114, R131). A VOLUME with a capacity reads block 0. -/
inductive VerbRun where
  | probe (tag : Option Tag) (port : Port) (unit : Nat)
  | volume (tag : Option Tag) (port : Port) (unit : Nat) (capacity : Option Nat)
  | peek (tag : Option Tag) (address : Nat) (left : Nat) (words : List (Nat × PeekWord))
  | poke (tag : Option Tag)
  | start (boot : Bool) (tag : Option Tag) (port : Port) (unit : Nat) (raw : Bool) (stage : StartStage)
  deriving DecidableEq, Repr

/-- The start-up supervisor (R135). `initTimer` says that the INIT timer runs, `settled` that SST's report has been taken,
`abortPending` that an abort waits for the memory transaction in flight to end (R77). -/
structure Sup where
  mode : Mode
  cause : ResetCause
  breakFlag : Bool
  restartPending : Bool
  slot : Option Holder
  runTag : Option Tag
  initTimer : Bool
  settled : Bool
  abortPending : Bool
  verbRun : Option VerbRun
  deriving DecidableEq, Repr

/-! ### Record lines (RLN) -/

/-- One field of a record line (R179): a number written in hexadecimal, a word, a refusal written "-ccc" inside a reply
(R79), or the twelve label characters (R22). -/
inductive Field where
  | num (n : Nat)
  | word (w : String)
  | code (c : Nat)
  | label (bytes : List Byte)
  deriving DecidableEq, Repr

/-- The forms of a record (R179). A START record and a notice both open with "*". -/
inductive RecordForm where
  | accepted | refused | notice | question
  deriving DecidableEq, Repr

/-- A record the part sends (R179): form, code, tag, the fields of its first line, and the further lines. -/
structure Record where
  form : RecordForm
  code : Nat
  tag : Option Tag
  fields : List Field
  lines : List (List Field)
  deriving DecidableEq, Repr

/-- A reply waiting or a record being sent on the console, with the events that wait for its last character: the RESTART
of R152 and the rate switch of R183. No record stands for the bare 0D 0A of R187. -/
structure ConsoleItem where
  record : Option Record
  restart : Bool := false
  rateSwitch : Bool := false
  deriving DecidableEq, Repr

/-- What RLU does when a target-line record has left (R185). -/
inductive AfterTarget where
  | nothing | revert | reboot
  deriving DecidableEq, Repr

/-- A record waiting or being sent on the target line. -/
structure TargetItem where
  record : Record
  after : AfterTarget := .nothing
  deriving DecidableEq, Repr

/-- The mark of a partial line (R170). -/
inductive LineMark where
  | nothing | bad | tooLong
  deriving DecidableEq, Repr

/-- A partial line: kept characters and mark (R170). -/
structure Partial where
  kept : Text
  mark : LineMark
  deriving DecidableEq, Repr

/-- A complete line in a line queue (R171, R172). -/
inductive QueuedLine where
  | text (chars : Text)
  | bad
  | tooLong
  deriving DecidableEq, Repr

/-- The console line (R169 to R183). `waitMarking` says that the receiver waits for the input to return to marking (R175,
R187); `pendingRate` is a pending rate switch. -/
structure Console where
  rate : Nat
  pendingRate : Option Nat
  waitMarking : Bool
  line : Partial
  lines : List QueuedLine
  replies : List ConsoleItem
  question : Option Record
  notices : List Record
  lost : Nat
  tx : Option ConsoleItem
  deriving DecidableEq, Repr

/-- The target line (R174, R184 to R186). `accepting` says that RLU accepts requests. -/
structure Target where
  isOpen : Bool
  rate : Nat
  waitMarking : Bool
  line : Partial
  lines : List QueuedLine
  accepting : Bool
  queue : List TargetItem
  tx : Option TargetItem
  deriving DecidableEq, Repr

end Sys2Proof.Machine
end

