-- ==== Sys2Proof/Machine/Defaults.lean ====
section
/-! DEFINITION. The default settings (R154, R38, R66): what a part with no valid stored copy starts with, and what DEFAULTS
puts in force. -/

namespace Sys2Proof.Machine

/-- The default boot order list (R38). -/
def defaultOrder : List BootEntry :=
  [⟨.sp1, 0, 0, 2, .ask, false⟩, ⟨.sp0, 0, 0, 2, .skip, false⟩, ⟨.sp2, 0, 7, 1, .skip, false⟩, ⟨.sp3, 0, 3, 2, .skip, true⟩]

/-- The default map: region 1, base 0, size 1000000, LOAD and CHECK (R66). -/
def defaultMap : Eight (Option Region) :=
  { Eight.const none with i1 := some ⟨0, 0x1000000, true, true, false⟩ }

/-- The default settings (R154). -/
def defaultSettings : Settings where
  conrate := 38400
  tgtrate := 115200
  autostart := true
  autocheck := .quick
  checkfail := .carryOn
  shortwait := 5
  longwait := 120
  maxrounds := 0
  askwait := 30
  confirm := 20
  budget := 3
  verify := true
  rawbase := 0
  rawblocks := 64
  retries := 2
  kinds := ⟨.flash, .card, .block, .link⟩
  order := defaultOrder
  map := defaultMap

end Sys2Proof.Machine
end

