-- ==== Sys2Proof/Machine/State.lean ====
section
/-! DEFINITION. The state of the BS204: the state of its ten blocks (00_scope.md section 3) and the queue of waiting
commands, the reasons a step could stop, and the state after reset. -/

namespace Sys2Proof.Machine

/-- The reasons a step could end in a fault. There is none: the spec gives every command an effect in every state, so no
command of this block faults (safe: nothing stops where the part goes on). -/
inductive Fault where
  deriving DecidableEq, Repr

/-- The reasons a step could be refused. -/
inductive Refusal where
  /-- Raised by `exec` alone, for a command that has no meaning yet; no arm raises it. Safe: the model stops where the part
  goes on. -/
  | notModelled (mnemonic : String)
  deriving DecidableEq, Repr

/-- The blocks of the part and their state (00_scope.md section 3). -/
structure Part where
  /-- source port controller -/
  spc : Spc
  /-- search engine -/
  sre : Sre
  /-- memory map and memory port -/
  mmp : Mmp
  /-- memory checker -/
  mck : Mck
  /-- loader -/
  ldr : Ldr
  /-- release unit -/
  rlu : Rlu
  /-- start-up supervisor -/
  sup : Sup
  /-- settings store -/
  sst : Sst
  /-- record line unit, console side -/
  con : Console
  /-- record line unit, target side -/
  tgt : Target
  deriving DecidableEq, Repr

/-- The state: the part, and the commands that wait, first in first out. -/
structure State extends Part where
  pending : List Instr
  deriving DecidableEq, Repr

/-- The closed target line with all its state emptied (R186, R187). The rate is read anew at each opening (R184);
what it reads as while the line is closed is a DESIGN CHOICE (notes/assumptions/22.md). -/
def closedTarget : Target where
  isOpen := false
  rate := 115200
  waitMarking := false
  line := ⟨[], .nothing⟩
  lines := []
  accepting := false
  queue := []
  tx := none

/-- The state of every block right after a POWER-ON or PIN reset, from what survives one: the settings memory, the levels of
the sense inputs, and the cause (R4, R65, R73, R77, R96, R112, R134, R135, R168, R187). Until SST has chosen the working
settings no block reads them; the model keeps the defaults there, the copy records INVALID and the source DEFAULTS
(DESIGN CHOICE, notes/assumptions/3.md). -/
def powerReset (cause : ResetCause) (areaA areaB : Option StoredCopy) (sense : Four Bool) : Part where
  spc := { ports := none, sense := sense }
  sre :=
    { run := none, lastRound := 0, log := [], nextSeq := 1, spent := [], releaseCount := 0, question := none,
      questionId := 0, questionTimer := none, waitTimer := none }
  mmp := { health := Eight.const .unchecked, txn := none }
  mck := { run := none, defects := [], dropped := 0 }
  ldr := { image := .nothing, plan := none, handoff := none }
  rlu := { treset := .asserted, released := none, windowTimer := none }
  sup :=
    { mode := .init, cause := cause, breakFlag := false, restartPending := false, slot := none, runTag := none,
      initTimer := true, settled := false, abortPending := false, verbRun := none }
  sst :=
    { settings := defaultSettings, areaA := areaA, areaB := areaB, recordA := none, recordB := none, source := .defaults,
      saving := none }
  con :=
    { rate := Config.startRate, pendingRate := none, waitMarking := true, line := ⟨[], .nothing⟩, lines := [], replies := [],
      question := none, notices := [], lost := 0, tx := some { record := none } }
  tgt := closedTarget

/-- The part right after its first POWER-ON: as delivered neither area holds a valid copy (section 9). The sense inputs
show no card (DESIGN CHOICE, notes/assumptions/2.md). -/
def State.reset : State where
  toPart := powerReset .powerOn none none ⟨false, false, false, false⟩
  pending := []

end Sys2Proof.Machine
end

