-- ==== Sys2Proof/Machine/Records.lean ====
section
/-! DEFINITION. Records the part sends: the words it writes for its states, the record forms, and their text (R179). -/

namespace Sys2Proof.Machine

/-! ### Words -/

def yesNo (b : Bool) : String := if b then "YES" else "NO"
def onOff (b : Bool) : String := if b then "ON" else "OFF"

def PortKind.name : PortKind → String
  | .unused => "NONE" | .flash => "FLASH" | .card => "CARD" | .block => "BLOCK" | .link => "LINK"

def Policy.name : Policy → String
  | .skip => "SKIP" | .ask => "ASK" | .take => "TAKE"

def AutoCheck.name : AutoCheck → String
  | .nothing => "NONE" | .quick => "QUICK" | .walk => "WALK"

def CheckFail.name : CheckFail → String
  | .halt => "HALT" | .carryOn => "CONTINUE"

def Area.name : Area → String
  | .a => "A" | .b => "B"

def Source.name : Source → String
  | .a => "A" | .b => "B" | .defaults => "DEFAULTS"

def PortState.name : PortState → String
  | .off => "OFF" | .idle => "IDLE" | .busy => "BUSY" | .fault => "FAULT"

def Presence.name : Presence → String
  | .unknown => "UNKNOWN" | .absent => "ABSENT" | .present => "PRESENT"

def Readiness.name : Readiness → String
  | .ready => "READY" | .notReady => "NOT-READY"

def CheckName.name : CheckName → String
  | .signature => "SIGNATURE" | .headerCrc => "HEADER-CRC" | .version => "VERSION" | .volumeClass => "CLASS"
  | .imageId => "IMAGE-ID" | .segmentCount => "SEGMENT-COUNT" | .length => "LENGTH" | .targetAlign => "TARGET-ALIGN"
  | .source => "SOURCE" | .entry => "ENTRY" | .handoffAlign => "HANDOFF-ALIGN" | .notInLoad => "NOT-IN-LOAD"
  | .overlap => "OVERLAP" | .handoffPlace => "HANDOFF-PLACE" | .defective => "DEFECTIVE" | .capacity => "CAPACITY"

def VolumeClass.name : VolumeClass → String
  | .blank => "BLANK" | .unknown => "UNKNOWN" | .damaged => "DAMAGED" | .dataOnly => "DATA-ONLY"
  | .mapConflict => "MAP-CONFLICT" | .memoryDefective => "MEMORY-DEFECTIVE" | .bootable => "BOOTABLE"

def AttemptOutcome.name : AttemptOutcome → String
  | .notPresent => "NOT-PRESENT" | .notReady => "NOT-READY" | .blank => "BLANK" | .dataOnly => "DATA-ONLY"
  | .unknownSkipped => "UNKNOWN-SKIPPED" | .unknownDeclined => "UNKNOWN-DECLINED" | .unknownTimeout => "UNKNOWN-TIMEOUT"
  | .spent => "SPENT" | .budget => "BUDGET" | .loaded => "LOADED" | .released => "RELEASED" | .confirmed => "CONFIRMED"
  | .confirmTimeout => "CONFIRM-TIMEOUT" | .reverted => "REVERTED" | .aborted => "ABORTED" | .readFault => "READ-FAULT"
  | .mediaLost => "MEDIA-LOST" | .damaged => "DAMAGED" | .memoryFault => "MEMORY-FAULT" | .mapConflict => "MAP-CONFLICT"
  | .memoryDefective => "MEMORY-DEFECTIVE"

def Origin.name : Origin → String
  | .start => "START" | .seek => "SEEK" | .fallback => "FALLBACK"

def Health.name : Health → String
  | .unchecked => "UNCHECKED" | .good => "GOOD" | .defective => "DEFECTIVE"

def CheckKind.name : CheckKind → String
  | .quick => "QUICK" | .walk => "WALK" | .read => "READ"

def DefectKind.name : DefectKind → String
  | .mismatch => "MISMATCH" | .unstable => "UNSTABLE" | .noResponse => "NO-RESPONSE" | .busError => "BUS-ERROR"

def ImageState.name : ImageState → String
  | .nothing => "NONE" | .partly => "PARTIAL" | .staged => "STAGED" | .released => "RELEASED"

def ResetCause.name : ResetCause → String
  | .powerOn => "POWER-ON" | .pin => "PIN" | .restart => "RESTART"

def AutoPhase.name : AutoPhase → String
  | .check => "AUTO-CHECK" | .search => "AUTO-SEARCH" | .question => "AUTO-QUESTION" | .load => "AUTO-LOAD"
  | .wait => "AUTO-WAIT"

def SlotVerb.name : SlotVerb → String
  | .check => "CHECK" | .stage => "STAGE" | .boot => "BOOT" | .go => "GO" | .probe => "PROBE" | .volume => "VOLUME"
  | .peek => "PEEK" | .poke => "POKE"

def WindowPhase.name : WindowPhase → String
  | .confirmWait => "CONFIRM-WAIT" | .running => "RUNNING"

def HaltReason.name : HaltReason → String
  | .check => "CHECK" | .budget => "BUDGET"

/-- The mode word of R135. -/
def Mode.name : Mode → String
  | .init => "INIT" | .auto _ => "AUTO" | .manual _ => "MANUAL" | .targetRun _ => "TARGET-RUN" | .halted _ => "HALTED"

/-- The phase word of R135; a HALTED part shows its reason (R151). -/
def Mode.phaseName : Mode → String
  | .init => "NONE"
  | .auto p => p.name
  | .manual none => "IDLE"
  | .manual (some v) => "BUSY-" ++ v.name
  | .targetRun p => p.name
  | .halted r => r.name

/-! ### Codes of the handoff record (R24) -/

def BootReason.code : BootReason → Nat
  | .auto => 1 | .manualBoot => 2 | .manualGo => 3 | .fallback => 4

/-- The word of a boot reason code (R127). -/
def bootReasonWord : Nat → String
  | 1 => "AUTO" | 2 => "MANUAL-BOOT" | 3 => "MANUAL-GO" | _ => "FALLBACK"

def PortKind.code : PortKind → Nat
  | .unused => 0 | .flash => 1 | .card => 2 | .block => 3 | .link => 4

/-- The word of a port kind code (R127). -/
def portKindWord : Nat → String
  | 0 => "NONE" | 1 => "FLASH" | 2 => "CARD" | 3 => "BLOCK" | _ => "LINK"

/-! ### Record forms (R179) -/

def accepted (code : Nat) (tag : Option Tag) (fields : List Field) : Record := ⟨.accepted, code, tag, fields, []⟩
def refusal (code : Nat) (tag : Option Tag) : Record := ⟨.refused, code, tag, [], []⟩
def notice (code : Nat) (tag : Option Tag) (fields : List Field) : Record := ⟨.notice, code, tag, fields, []⟩

/-- A multi-line reply: its last field is the count of the lines that follow (R179). -/
def multiLine (tag : Option Tag) (lines : List (List Field)) : Record :=
  ⟨.accepted, 0, tag, [.num lines.length], lines⟩

/-- The question record "?410 q UNKNOWN p u" (R52). -/
def questionRecord (q : Question) : Record :=
  ⟨.question, 410, none, [.num q.id, .word "UNKNOWN", .num q.port.num, .num q.unit], []⟩

/-- The START record "*740 e h" (R119). -/
def startRecord (entry : Nat) (handoff : Option Nat) : Record :=
  notice 740 none [.num entry, .num (handoff.getD 0)]

/-- The keyword pair that is written when a value is present. -/
def optPair (word : String) : Option Nat → List Field
  | none => []
  | some n => [.word word, .num n]

/-- The text form of an attempt-log record (R57). -/
def AttemptRecord.textFields (r : AttemptRecord) : List Field :=
  [.num r.seq, .num r.fields.round, .num r.fields.entry, .num r.fields.port.num, .num r.fields.unit,
    .word r.outcome.name] ++ optPair "DETAIL" r.detail ++ optPair "ID" (r.imageId.map BitVec.toNat)

/-! ### Text (R179) -/

/-- One upper-case hexadecimal digit. -/
def hexDigit (n : Nat) : Char :=
  "0123456789ABCDEF".toList.getD n '0'

/-- Hexadecimal digits before an already written tail; the first argument bounds the digits. -/
def hexAppend : Nat → Nat → Text → Text
  | 0, _, tail => tail
  | k + 1, n, tail => if n < 16 then hexDigit n :: tail else hexAppend k (n / 16) (hexDigit (n % 16) :: tail)

/-- A number in hexadecimal, upper case, without prefix and without leading zeros (R179). -/
def hexText (n : Nat) : Text := hexAppend (n + 1) n []

/-- A three-digit decimal code (R179). -/
def codeText (c : Nat) : Text :=
  [hexDigit (c / 100 % 10), hexDigit (c / 10 % 10), hexDigit (c % 10)]

/-- A tag echo: "#" and the two digits (R176, R179). -/
def tagText (t : Tag) : Text := ['#', hexDigit (t.toNat / 16), hexDigit (t.toNat % 16)]

/-- The character a label byte is written as (R22). -/
def labelChar (b : Byte) : Char :=
  if 0x21 ≤ b.toNat ∧ b.toNat ≤ 0x7E then Char.ofNat b.toNat else '_'

def Field.text : Field → Text
  | .num n => hexText n
  | .word w => w.toList
  | .code c => '-' :: codeText c
  | .label bs => bs.map labelChar

/-- Fields separated by one space (R179). -/
def joinText : List Text → Text
  | [] => []
  | [t] => t
  | t :: ts => t ++ ' ' :: joinText ts

def RecordForm.mark : RecordForm → Char
  | .accepted => '+' | .refused => '-' | .notice => '*' | .question => '?'

/-- The end of a line, 0D 0A (R179). -/
def lineEnd : Text := ['\r', '\n']

/-- The lines of a record, each ended by 0D 0A (R179). -/
def Record.text (r : Record) : Text :=
  r.form.mark :: joinText (codeText r.code :: (r.tag.toList.map tagText ++ r.fields.map Field.text)) ++ lineEnd ++
    r.lines.flatMap fun l => '=' :: joinText (l.map Field.text) ++ lineEnd

/-- What the console transmitter sends for an item: a record, or the bare 0D 0A of R187. -/
def ConsoleItem.text (i : ConsoleItem) : Text :=
  match i.record with
  | some r => r.text
  | none => lineEnd

end Sys2Proof.Machine
end

