-- ==== Sys2Proof/Machine/Operands.lean ====
section
/-! DEFINITION. The request grammar (R176 to R178): the words of a line, the tag, the verb, and the classes of the argument
words, before any owner judges them. -/

namespace Sys2Proof.Machine

/-- An argument word that RLN hands on: a number by its value, or a keyword by its characters (R177). -/
inductive Arg where
  | num (n : Nat)
  | word (w : Text)
  deriving DecidableEq, Repr

/-- The requests the owners judge. ORDER and MAP are split by their first argument (R42, R71); `mapOther` and `orderOther`
are those verbs with a second word missing or unknown. -/
inductive Verb where
  | abort | answer | boot | check | defaults | defects | get | go | hold | log | mapPut | mapDel | mapList | mapOther
  | orderPut | orderDel | orderMove | orderList | orderOther | peek | poke | ports | probe | restart | save | seek | set
  | spent | stage | stat | volume | alive | revert | hand | reboot
  deriving DecidableEq, Repr

/-- A request: its verb, its arguments in order and its tag (R178). -/
structure Request where
  verb : Verb
  tag : Option Tag
  args : List Arg
  deriving DecidableEq, Repr

/-- What RLN makes of a TEXT line: a refusal with its tag echo, or a request (R178). -/
inductive Parsed where
  | refused (code : Nat) (tag : Option Tag)
  | request (r : Request)
  deriving DecidableEq, Repr

/-! ### Words (R176) -/

/-- The words of a line: the runs of characters between spaces. `cur` holds the word in progress, reversed. -/
def splitWordsFrom (cur : Text) : Text → List Text
  | [] => if cur = [] then [] else [cur.reverse]
  | c :: cs =>
    if c = ' ' then (if cur = [] then splitWordsFrom [] cs else cur.reverse :: splitWordsFrom [] cs)
    else splitWordsFrom (c :: cur) cs

def splitWords (t : Text) : List Text := splitWordsFrom [] t

/-- The value of an upper-case hexadecimal digit. -/
def hexValue? (c : Char) : Option Nat :=
  if '0' ≤ c ∧ c ≤ '9' then some (c.toNat - '0'.toNat)
  else if 'A' ≤ c ∧ c ≤ 'F' then some (c.toNat - 'A'.toNat + 10)
  else none

def isHex (c : Char) : Bool := (hexValue? c).isSome
def isDigit (c : Char) : Bool := '0' ≤ c && c ≤ '9'

/-- The value of digits in a base, most significant first. -/
def digitsValue (base : Nat) (t : Text) : Nat :=
  t.foldl (fun n c => base * n + (hexValue? c).getD 0) 0

/-- A tag word after its "#": exactly two hexadecimal digits (R176). -/
def parseTag : Text → Option Tag
  | [hi, lo] =>
    match hexValue? hi, hexValue? lo with
    | some h, some l => some (BitVec.ofNat 8 (16 * h + l))
    | _, _ => none
  | _ => none

/-! ### Argument words (R177) -/

/-- The digits of a word of digits followed by one full stop. -/
def decimalDigits? (w : Text) : Option Text :=
  match w.reverse with
  | '.' :: ds => if ds ≠ [] ∧ ds.all isDigit then some ds.reverse else none
  | _ => none

/-- The class of an argument word: its number or keyword, or the refusal 103 or 104 (R177). -/
def classifyWord (w : Text) : Nat ⊕ Arg :=
  if w ≠ [] ∧ w.all isHex then
    if w.length > 8 then .inl 104 else .inr (.num (digitsValue 16 w))
  else
    match decimalDigits? w with
    | some ds => if ds.length > 10 ∨ digitsValue 10 ds > 4294967295 then .inl 104 else .inr (.num (digitsValue 10 ds))
    | none => if (w.head?.map isDigit).getD false then .inl 103 else .inr (.word w)

/-- The argument words from left to right: the refusal of the first bad word, or all of them (R178). -/
def classifyWords : List Text → Nat ⊕ List Arg
  | [] => .inr []
  | w :: ws =>
    match classifyWord w with
    | .inl code => .inl code
    | .inr a =>
      match classifyWords ws with
      | .inl code => .inl code
      | .inr as => .inr (a :: as)

/-! ### Verbs (R176) -/

/-- The verbs of the console line other than MAP and ORDER (R176). -/
def consoleVerbs : List (String × Verb) :=
  [("ABORT", .abort), ("ANSWER", .answer), ("BOOT", .boot), ("CHECK", .check), ("DEFAULTS", .defaults),
    ("DEFECTS", .defects), ("GET", .get), ("GO", .go), ("HOLD", .hold), ("LOG", .log), ("PEEK", .peek), ("POKE", .poke),
    ("PORTS", .ports), ("PROBE", .probe), ("RESTART", .restart), ("SAVE", .save), ("SEEK", .seek), ("SET", .set),
    ("SPENT", .spent), ("STAGE", .stage), ("STAT", .stat), ("VOLUME", .volume)]

/-- The verbs of the target line (R176). -/
def targetVerbs : List (String × Verb) :=
  [("ALIVE", .alive), ("HAND", .hand), ("REBOOT", .reboot), ("REVERT", .revert), ("STAT", .stat)]

/-- The second words of MAP and of ORDER (R71, R42). -/
def mapWords : List (String × Verb) := [("PUT", .mapPut), ("DEL", .mapDel), ("LIST", .mapList)]
def orderWords : List (String × Verb) :=
  [("PUT", .orderPut), ("DEL", .orderDel), ("MOVE", .orderMove), ("LIST", .orderList)]

/-- The entry of a table of words. -/
def findWord {α : Type} (t : List (String × α)) (w : Text) : Option α :=
  match t with
  | [] => none
  | (k, v) :: rest => if k.toList = w then some v else findWord rest w

/-- MAP and ORDER: the second word is the first argument, and it names the request (R176, R42, R71). -/
def splitVerb (t : List (String × Verb)) (other : Verb) : List Arg → Verb × List Arg
  | .word w :: rest =>
    match findWord t w with
    | some v => (v, rest)
    | none => (other, .word w :: rest)
  | args => (other, args)

/-- The judgement of the verb and of the argument words, in the order of R178 steps 2 and 3. -/
def parseVerb (l : Line) (tag : Option Tag) : List Text → Parsed
  | [] => .refused 110 tag
  | w :: ws =>
    let known : Option (List Arg → Verb × List Arg) :=
      match l with
      | .target => (findWord targetVerbs w).map fun v as => (v, as)
      | .console =>
        if w = "MAP".toList then some (splitVerb mapWords .mapOther)
        else if w = "ORDER".toList then some (splitVerb orderWords .orderOther)
        else (findWord consoleVerbs w).map fun v as => (v, as)
    match known with
    | none => .refused 110 tag
    | some f =>
      match classifyWords ws with
      | .inl code => .refused code tag
      | .inr args => .request ⟨(f args).1, tag, (f args).2⟩

/-- The judgement of a line's words (R176, R178): the tag, then the verb, then the argument words. -/
def parseWords (l : Line) : List Text → Parsed
  | ('#' :: rest) :: ws =>
    match parseTag rest with
    | none => .refused 111 none
    | some t => parseVerb l (some t) ws
  | ws => parseVerb l none ws

/-- The judgement of a TEXT line (R178). -/
def parseLine (l : Line) (t : Text) : Parsed := parseWords l (splitWords t)

/-! ### The line of a verb command -/

/-- The words with which a request line opens: the tag when there is one, then the given words. -/
def lineWords (tag : Option Tag) (ws : List Text) : List Text :=
  match tag with
  | none => ws
  | some t => tagText t :: ws

/-- The characters of the line made of words. -/
def lineText (tag : Option Tag) (ws : List Text) : Text := joinText (lineWords tag ws)

/-- The words of a verb on its line (R176). -/
def Verb.words : Verb → List Text
  | .abort => ["ABORT".toList] | .answer => ["ANSWER".toList] | .boot => ["BOOT".toList] | .check => ["CHECK".toList]
  | .defaults => ["DEFAULTS".toList] | .defects => ["DEFECTS".toList] | .get => ["GET".toList] | .go => ["GO".toList]
  | .hold => ["HOLD".toList] | .log => ["LOG".toList]
  | .mapPut => ["MAP".toList, "PUT".toList] | .mapDel => ["MAP".toList, "DEL".toList]
  | .mapList => ["MAP".toList, "LIST".toList] | .mapOther => ["MAP".toList]
  | .orderPut => ["ORDER".toList, "PUT".toList] | .orderDel => ["ORDER".toList, "DEL".toList]
  | .orderMove => ["ORDER".toList, "MOVE".toList] | .orderList => ["ORDER".toList, "LIST".toList]
  | .orderOther => ["ORDER".toList]
  | .peek => ["PEEK".toList] | .poke => ["POKE".toList] | .ports => ["PORTS".toList] | .probe => ["PROBE".toList]
  | .restart => ["RESTART".toList] | .save => ["SAVE".toList] | .seek => ["SEEK".toList] | .set => ["SET".toList]
  | .spent => ["SPENT".toList] | .stage => ["STAGE".toList] | .stat => ["STAT".toList] | .volume => ["VOLUME".toList]
  | .alive => ["ALIVE".toList] | .revert => ["REVERT".toList] | .hand => ["HAND".toList] | .reboot => ["REBOOT".toList]

end Sys2Proof.Machine
end

