-- ==== Sys2Proof/Machine/Ops.lean ====
section
/-! DEFINITION. The operations every block shares: the console transmitter and its arbiter, notices and replies, the target
transmitter, the attempt log, the operation slot, and the reports that change the mode. Each works on the part; no operation
touches the queue of waiting commands. -/

namespace Sys2Proof.Machine

/-- A command's effect on the part, leaving the queue of waiting commands as it is. -/
def State.on (s : State) (f : Part → Part) : Host.Outcome State Fault Refusal :=
  .next { s with toPart := f s.toPart }

/-- Adds one, staying at a limit (R61, R90, R180). -/
def satSucc (limit n : Nat) : Nat := if n < limit then n + 1 else n

/-- Goes on with the result that an operation has given at once; with none the part waits for it. -/
def follow {α : Type} (x : Part × Option α) (f : α → Part → Part) : Part :=
  match x.2 with
  | none => x.1
  | some a => f a x.1

/-- As `follow`, for a step that may itself give a result at once. -/
def followTo {α β : Type} (x : Part × Option α) (f : α → Part → Part × Option β) : Part × Option β :=
  match x.2 with
  | none => (x.1, none)
  | some a => f a x.1

/-- The element put at the end of a list that keeps its newest `limit` elements (R56, R59). -/
def pushBounded {α : Type} (limit : Nat) (l : List α) (x : α) : List α :=
  (if l.length < limit then l else l.tail) ++ [x]

/-! ### Console transmitter (R180 to R182) -/

/-- Appends "*199 n" when the notice queue has a free place and the lost count is above 0 (R180). -/
def reportLost (c : Console) : Console :=
  if c.lost > 0 ∧ c.notices.length < Config.noticeCapacity then
    { c with notices := c.notices ++ [notice 199 none [.num c.lost]], lost := 0 }
  else c

/-- The arbiter's choice while the transmitter is free: the oldest reply, else the question, else the oldest notice (R182).
A record chosen leaves its queue or slot. -/
def arbitrateConsole (c : Console) : Console :=
  match c.tx with
  | some _ => c
  | none =>
    match c.replies with
    | r :: rest => { c with tx := some r, replies := rest }
    | [] =>
      match c.question with
      | some q => { c with tx := some { record := some q }, question := none }
      | none =>
        match c.notices with
        | n :: rest => reportLost { c with tx := some { record := some n }, notices := rest }
        | [] => c

/-- A notice joins the notice queue, or is dropped and counted when the queue is full (R180). -/
def queueNotice (n : Record) (c : Console) : Console :=
  if c.notices.length < Config.noticeCapacity then { c with notices := c.notices ++ [n] }
  else { c with lost := satSucc 0xFF c.lost }

/-- A block raises a notice (R180); it may begin to be sent at once (R182). -/
def raise (code : Nat) (tag : Option Tag) (fields : List Field) (p : Part) : Part :=
  { p with con := arbitrateConsole (queueNotice (notice code tag fields) p.con) }

/-- A reply joins the reply queue (R173); it may begin to be sent at once (R182). -/
def reply (item : ConsoleItem) (p : Part) : Part :=
  { p with con := arbitrateConsole { p.con with replies := p.con.replies ++ [item] } }

/-- A reply with no event waiting for its last character. -/
def replyRecord (r : Record) (p : Part) : Part := reply { record := some r } p

/-- "+000" with the tag echo (R142 and the verbs' own rules). -/
def replyOk (tag : Option Tag) (p : Part) : Part := replyRecord (accepted 0 tag []) p

/-- A refusal with its code and the tag echo (R179). -/
def refuse (code : Nat) (tag : Option Tag) (p : Part) : Part := replyRecord (refusal code tag) p

/-- The question record joins its slot (R181); it may begin to be sent at once (R182). -/
def handQuestion (q : Question) (p : Part) : Part :=
  { p with con := arbitrateConsole { p.con with question := some (questionRecord q) } }

/-! ### Target transmitter (R185) -/

/-- The target transmitter begins the oldest record of its queue when it is free (R185). -/
def startTarget (t : Target) : Target :=
  match t.tx, t.queue with
  | none, r :: rest => { t with tx := some r, queue := rest }
  | _, _ => t

/-- A record joins the target transmit queue (R185). -/
def handTarget (item : TargetItem) (p : Part) : Part :=
  { p with tgt := startTarget { p.tgt with queue := p.tgt.queue ++ [item] } }

/-- A reply on the line a request came from (R173, R174). -/
def replyOn (l : Line) (r : Record) (p : Part) : Part :=
  match l with
  | .console => replyRecord r p
  | .target => handTarget { record := r } p

/-! ### Attempt log (R56, R57) -/

/-- Appends an attempt-log record with the next sequence number and raises its notice 302 (R56, R57). -/
def appendRecord (tag : Option Tag) (fields : AttemptFields) (outcome : AttemptOutcome) (detail : Option Nat)
    (imageId : Option Word32) (p : Part) : Part :=
  let r : AttemptRecord := ⟨p.sre.nextSeq, fields, outcome, detail, imageId⟩
  raise 302 tag r.textFields
    { p with sre :=
      { p.sre with
        log := pushBounded Config.logCapacity p.sre.log r
        nextSeq := if p.sre.nextSeq = 0xFFFF then 1 else p.sre.nextSeq + 1 } }

/-! ### Lookups -/

/-- A region holds an address from its base up to, but not including, base + size (R66). -/
def Region.holds (r : Region) (a : Nat) : Bool := r.base ≤ a && a < r.base + r.size

/-- The index of the region that holds an address, or none (R67). -/
def regionAt (map : Eight (Option Region)) (a : Nat) : Option Idx :=
  Idx.all.find? fun i => ((map.get i).map fun r => r.holds a).getD false

/-- The occupied indexes in ascending order. -/
def occupied (map : Eight (Option Region)) : List Idx := Idx.all.filter fun i => (map.get i).isSome

/-- The occupied indexes whose region carries CHECK (R88). -/
def checkRegions (map : Eight (Option Region)) : List Idx :=
  Idx.all.filter fun i => ((map.get i).map Region.check).getD false

/-- The defect total: records and dropped count, staying at FFFF (R90). -/
def defectTotal (m : Mck) : Nat := min 0xFFFF (m.defects.length + m.dropped)

/-- The newest generation: that of the valid copy with the higher generation, or 0 (R160). -/
def newestGeneration (t : Sst) : Nat := max (t.recordA.getD 0) (t.recordB.getD 0)

/-- The area that holds the newest copy (R160); of two with one generation, which no SAVE can leave, A (DESIGN CHOICE,
notes/assumptions/21.md). -/
def newestArea (t : Sst) : Option Area :=
  match t.recordA, t.recordB with
  | none, none => none
  | some _, none => some .a
  | none, some _ => some .b
  | some ga, some gb => if gb ≤ ga then some .a else some .b

/-! ### Mode and slot (R136, R137) -/

/-- The mode changes as the owning block reports it (R136). -/
def setMode (m : Mode) (p : Part) : Part := { p with sup := { p.sup with mode := m } }

/-- The slot becomes empty and the mode MANUAL IDLE; the run tag ends with the modes AUTO and TARGET-RUN (R136, R137, R142;
DEDUCED, notes/assumptions/15.md). -/
def goIdle (p : Part) : Part :=
  { p with sup :=
    { p.sup with mode := .manual none, slot := none, runTag := none, abortPending := false, verbRun := none } }

/-- An accepted verb takes the slot and shows MANUAL BUSY (R142, R143). -/
def takeSlot (v : SlotVerb) (tag : Option Tag) (run : Option VerbRun) (p : Part) : Part :=
  { p with sup := { p.sup with mode := .manual (some v), slot := some (.verb v tag), verbRun := run } }

/-- The health of one region index is written (R73). -/
def setHealth (i : Idx) (h : Health) (p : Part) : Part :=
  { p with mmp := { p.mmp with health := p.mmp.health.set i h } }

/-- SUP enters HALTED: mode and reason, the slot empty, the target held, notice 802 (R150). -/
def enterHalted (r : HaltReason) (p : Part) : Part :=
  let tag := p.sup.runTag
  let p := { p with
    sup := { p.sup with mode := .halted r, slot := none, runTag := none, abortPending := false, verbRun := none }
    rlu := { p.rlu with treset := .asserted } }
  raise 802 tag [.word r.name] p

end Sys2Proof.Machine
end

