-- ==== Sys2Proof/Machine/MemoryPort.lean ====
section
/-! DEFINITION. The memory map's region health and the memory port (Target Memory Map and the Memory Port): the judgement of
each transaction request, and health writes. -/

namespace Sys2Proof.Machine

/-- The reply code of a memory-port refusal (R75). -/
def TxnRefusal.code : TxnRefusal → Nat
  | .targetRunning => 605 | .misaligned => 112 | .outsideMap => 601 | .preserved => 604

/-- The judgement of a transaction request, in the order of R75. -/
def judgeTxn (kind : TxnKind) (a : Nat) (p : Part) : Option TxnRefusal :=
  if p.rlu.treset = .freed then some .targetRunning
  else if a % 4 ≠ 0 then some .misaligned
  else
    match regionAt p.sst.settings.map a with
    | none => some .outsideMap
    | some i =>
      match kind with
      | .read => none
      | .write _ => if ((p.sst.settings.map.get i).map Region.preserve).getD false then some .preserved else none

/-- A transaction request: refused with the port left IDLE, or in flight with the response timer running (R75, R76). -/
def requestTxn (kind : TxnKind) (a : Nat) (rq : TxnRequester) (p : Part) : Part × Option TxnRefusal :=
  match judgeTxn kind a p with
  | some r => (p, some r)
  | none => ({ p with mmp := { p.mmp with txn := some ⟨kind, a, rq⟩ } }, none)

/-- A health write that names an address: applied to the region that holds it (R73). -/
def defectiveAt (a : Nat) (p : Part) : Part :=
  match regionAt p.sst.settings.map a with
  | some i => setHealth i .defective p
  | none => p

/-- The outcome of a transaction from MRDY, MERR and the word on the bus; neither asserted is no response yet (R76). -/
def busOutcome (t : Transaction) (mrdy merr : Bool) (word : Word32) : Option TxnOutcome :=
  if merr then some .busError
  else if mrdy then
    match t.kind with
    | .read => some (.done word)
    | .write _ => some (.done 0)
  else none

/-- The port is IDLE again (R76). -/
def endTxn (p : Part) : Part := { p with mmp := { p.mmp with txn := none } }

/-- A map edit: the region at an index, and its health UNCHECKED (R69, R70, R73). -/
def editMap (i : Idx) (r : Option Region) (p : Part) : Part :=
  setHealth i .unchecked
    { p with sst := { p.sst with settings := { p.sst.settings with map := p.sst.settings.map.set i r } } }

/-- Two regions share at least one address (R66, R68). -/
def Region.overlaps (r s : Region) : Bool := r.base < s.base + s.size && s.base < r.base + r.size

/-- A new region would share an address with a region at another index (R68 step 4). -/
def overlapsOther (map : Eight (Option Region)) (i : Idx) (r : Region) : Bool :=
  Idx.all.any fun j => j ≠ i && ((map.get j).map r.overlaps).getD false

/-- The attribute words of a region, in the order LOAD, CHECK, PRESERVE (R71). -/
def Region.attributeFields (r : Region) : List Field :=
  (if r.load then [.word "LOAD"] else []) ++ (if r.check then [.word "CHECK"] else []) ++
    (if r.preserve then [.word "PRESERVE"] else [])

/-- The lines of MAP LIST: one for each occupied index (R71). -/
def mapLines (p : Part) : List (List Field) :=
  (occupied p.sst.settings.map).flatMap fun i =>
    match p.sst.settings.map.get i with
    | none => []
    | some r => [[.num i.num, .num r.base, .num r.size, .word (p.mmp.health.get i).name] ++ r.attributeFields]

end Sys2Proof.Machine
end

