-- ==== Sys2Proof/Machine/Checker.lean ====
section
/-! DEFINITION. The memory checker (Target Memory Check): word sets, the phases of a destructive check, the two reads of a
READ check, defects, passes, and the course of a check run up to its end, which it returns to its caller. -/

namespace Sys2Proof.Machine

/-- The effective kind of a region: READ for a PRESERVE region, otherwise the kind asked (R82). -/
def effectiveKind (asked : CheckKind) (r : Region) : CheckKind := if r.preserve then .read else asked

/-- The word after `a` in the region's word set, none after the last (R82). -/
def nextWord (k : CheckKind) (r : Region) (a : Nat) : Option Nat :=
  let n := a + 4
  if r.base + r.size ≤ n then none
  else
    match k with
    | .walk | .read => some n
    | .quick =>
      if n < r.base + Config.pageBytes ∨ r.base + r.size - Config.pageBytes ≤ n ∨ n % Config.pageBytes = 0 then some n
      else some ((n / Config.pageBytes + 1) * Config.pageBytes)

/-- The word a phase writes or compares against: the address in phases 1 and 2, its complement in 3 and 4 (R83). -/
def patternWord (phase a : Nat) : Word32 :=
  if phase ≤ 2 then BitVec.ofNat 32 a else ~~~BitVec.ofNat 32 a

/-- The transaction of the run's current word (R83, R84). -/
def checkTxn (r : CheckRun) : TxnKind :=
  match r.effective with
  | .read => .read
  | _ => if r.phase = 1 ∨ r.phase = 3 then .write (patternWord r.phase r.cursor) else .read

/-- NONE asked of the loader by the checker: PARTIAL or STAGED becomes NONE and the plan is discarded (R92, R99). -/
def discardForCheck (p : Part) : Part :=
  match p.ldr.image with
  | .partly | .staged => { p with ldr := { p.ldr with image := .nothing, plan := none } }
  | _ => p

def setCheck (r : CheckRun) (p : Part) : Part := { p with mck := { p.mck with run := some r } }

/-- Requests the transaction of the run's current word. Just before the run's first WRITE the loaded image is discarded (R92).
A refusal cannot arise while the run holds the slot (R82). -/
def issueCheck (r : CheckRun) (p : Part) : Part :=
  match checkTxn r with
  | .read => (requestTxn .read r.cursor .checker (setCheck r p)).1
  | .write w =>
    let p := if r.written then p else discardForCheck p
    (requestTxn (.write w) r.cursor .checker (setCheck { r with written := true } p)).1

/-- Begins the check of a region: effective kind, first phase, first word (R82, R89). -/
def beginRegion (i : Idx) (r : CheckRun) (p : Part) : Part :=
  match p.sst.settings.map.get i with
  | none => setCheck { r with current := i } p
  | some g =>
    let k := effectiveKind r.asked g
    issueCheck
      { r with current := i, effective := k, phase := if k = .read then 0 else 1, cursor := g.base, firstRead := none } p

/-- Begins a pass at the first index of the region list (R89). -/
def beginPass (n : Nat) (r : CheckRun) (p : Part) : Part :=
  match r.regions with
  | [] => setCheck { r with pass := n } p
  | i :: _ => beginRegion i { r with pass := n } p

/-- A check run begins: the run state, the defect list emptied, notice 500 and pass 1 (R87, R88). The scope fields are those
of the notice. -/
def beginCheck (origin : CheckOrigin) (tag : Option Tag) (asked : CheckKind) (regions : List Idx) (passes : Nat) (stop : Bool)
    (scope : List Field) (p : Part) : Part :=
  let r : CheckRun :=
    { origin := origin, tag := tag, asked := asked, regions := regions, passes := passes, stop := stop, pass := 1,
      current := (regions.head?).getD .r1, effective := asked, phase := 0, cursor := 0, written := false, marks := [],
      firstRead := none }
  beginPass 1 r (raise 500 tag (.word asked.name :: scope) { p with mck := { run := some r, defects := [], dropped := 0 } })

/-- The current region's defect mark is set (R85, R90). -/
def markRegion (r : CheckRun) : CheckRun :=
  { r with marks := if r.current ∈ r.marks then r.marks else r.marks ++ [r.current] }

/-- A defect joins the list, or is counted when the list is full (R90). -/
def recordDefect (d : Defect) (p : Part) : Part :=
  { p with mck :=
    if p.mck.defects.length < Config.defectCapacity then { p.mck with defects := p.mck.defects ++ [d] }
    else { p.mck with dropped := satSucc 0xFFFF p.mck.dropped } }

/-- What an outcome of the run's transaction shows: a defect, nothing, or for the first of a READ check's two reads the word
to compare with (R83, R84). -/
inductive Finding where
  | good
  | firstRead (w : Word32)
  | defect (d : Defect)
  deriving DecidableEq, Repr

/-- The judgement of an outcome (R83, R84). -/
def judgeCheck (r : CheckRun) (o : TxnOutcome) : Finding :=
  match o with
  | .noResponse => .defect ⟨r.cursor, .noResponse, none, none, r.pass⟩
  | .busError => .defect ⟨r.cursor, .busError, none, none, r.pass⟩
  | .done w =>
    match r.effective with
    | .read =>
      match r.firstRead with
      | none => .firstRead w
      | some x => if w = x then .good else .defect ⟨r.cursor, .unstable, none, some w, r.pass⟩
    | _ =>
      if r.phase = 1 ∨ r.phase = 3 ∨ w = patternWord r.phase r.cursor then .good
      else .defect ⟨r.cursor, .mismatch, some (patternWord r.phase r.cursor), some w, r.pass⟩

/-- How far a check run has come after a word: it goes on, or it has ended (R89, R93, R94). -/
inductive CheckCourse where
  | goesOn
  | stopped
  | complete
  deriving DecidableEq, Repr

/-- The end of a region's check within a pass: its health is written (R91). -/
def endRegion (r : CheckRun) (p : Part) : Part :=
  setHealth r.current (if r.current ∈ r.marks then .defective else .good) p

/-- The index after the current one in the region list. -/
def nextRegion (r : CheckRun) : Option Idx :=
  ((r.regions.dropWhile (· ≠ r.current)).tail).head?

/-- The end of a pass: notice 501, then the run is complete or the next pass begins (R89). -/
def endPass (r : CheckRun) (p : Part) : Part × CheckCourse :=
  let p := raise 501 r.tag [.num r.pass, .num (defectTotal p.mck)] (setCheck r p)
  if r.passes ≠ 0 ∧ r.pass = r.passes then (p, .complete)
  else (beginPass (min 0xFFFF (r.pass + 1)) r p, .goesOn)

/-- Goes on after a judged word: the next word, the next phase, the next region, or the end of the pass (R83, R84, R89). -/
def advanceCheck (r : CheckRun) (p : Part) : Part × CheckCourse :=
  let r := { r with firstRead := none }
  match p.sst.settings.map.get r.current with
  | none => (setCheck r p, .goesOn)
  | some g =>
    match nextWord r.effective g r.cursor with
    | some a => (issueCheck { r with cursor := a } p, .goesOn)
    | none =>
      if r.effective ≠ .read ∧ r.phase < 4 then (issueCheck { r with phase := r.phase + 1, cursor := g.base } p, .goesOn)
      else
        let p := endRegion r p
        match nextRegion r with
        | some i => (beginRegion i r p, .goesOn)
        | none => endPass r p

/-- The outcome of the run's transaction, taken with no abort pending (R83, R84, R93). Under STOP the first defect ends the
run: the region is DEFECTIVE and notice 502 names STOP. -/
def checkOutcome (o : TxnOutcome) (r : CheckRun) (p : Part) : Part × CheckCourse :=
  match judgeCheck r o with
  | .good => advanceCheck r p
  | .firstRead w => (issueCheck { r with firstRead := some w } p, .goesOn)
  | .defect d =>
    let r := markRegion r
    let p := recordDefect d p
    if r.stop then
      let p := setHealth r.current .defective (setCheck r p)
      (raise 502 r.tag [.num r.pass, .num (defectTotal p.mck), .word "STOP"] p, .stopped)
    else advanceCheck r p

/-- The outcome of the transaction in flight when an abort was taken: judged as usual, and a defect recorded; the first read of
a READ check that ended DONE leaves its word unjudged (R95 step 1). -/
def checkAbortOutcome (o : TxnOutcome) (r : CheckRun) (p : Part) : Part :=
  match judgeCheck r o with
  | .defect d => setCheck (markRegion r) (recordDefect d p)
  | _ => p

/-- The end of an aborted run: a marked region cut short is DEFECTIVE, notice 503, the run state absent (R95 steps 3 to 5). The region
in progress counts as cut short even at its last word (DEDUCED, notes/assumptions/18.md). -/
def endAbortedCheck (r : CheckRun) (p : Part) : Part :=
  let p := if r.current ∈ r.marks then setHealth r.current .defective p else p
  let p := raise 503 r.tag [.num r.pass, .num (defectTotal p.mck)] p
  { p with mck := { p.mck with run := none } }

/-- The lines of the DEFECTS reply (R97). -/
def defectLines (m : Mck) : List (List Field) :=
  m.defects.map (fun d =>
    [.num d.address, .word d.kind.name] ++ optPair "EXPECT" (d.expected.map BitVec.toNat) ++
      optPair "SEEN" (d.observed.map BitVec.toNat) ++ [.word "PASS", .num d.pass]) ++
    [[.word "DROPPED", .num m.dropped]]

end Sys2Proof.Machine
end

