-- ==== Sys2Proof/Machine/Bytes.lean ====
section
/-! DEFINITION. Byte order and the two check codes (00_scope.md sections 5.2 and 5.3): every multi-byte integer is
little-endian; CRC-32 guards headers, segments, handoff records and stored copies, CRC-16 guards LINK frames. -/

namespace Sys2Proof.Machine

/-- The value of bytes in little-endian order. -/
def leValue : List Byte → Nat
  | [] => 0
  | b :: bs => b.toNat + 256 * leValue bs

/-- The little-endian bytes of a number, `n` of them. -/
def leBytes : Nat → Nat → List Byte
  | 0, _ => []
  | n + 1, v => BitVec.ofNat 8 v :: leBytes n (v / 256)

/-- The four bytes of a word, lowest first. -/
def wordBytes (w : Word32) : List Byte := leBytes 4 w.toNat

/-- The word made of the first four bytes, the first as the lowest (R103). -/
def bytesWord (bs : List Byte) : Word32 := BitVec.ofNat 32 (leValue (bs.take 4))

/-- The little-endian integer of `n` bytes from position `at'` of a binary layout. -/
def field (bs : List Byte) (pos n : Nat) : Nat := leValue ((bs.drop pos).take n)

/-- The bits of a byte, least significant first. -/
def bitsLsb (b : Byte) : List Bool :=
  [b.getLsbD 0, b.getLsbD 1, b.getLsbD 2, b.getLsbD 3, b.getLsbD 4, b.getLsbD 5, b.getLsbD 6, b.getLsbD 7]

/-- The reflected CRC-32 register carried over a run of bits (00_scope.md section 5.3). -/
def crc32Bits (c : Word32) : List Bool → Word32
  | [] => c
  | b :: bs => if c.getLsbD 0 ^^ b then crc32Bits ((c >>> 1) ^^^ 0xEDB88320#32) bs else crc32Bits (c >>> 1) bs

/-- The CRC-32 register before any byte. -/
def crc32Init : Word32 := 0xFFFFFFFF#32

/-- The CRC-32 register carried over bytes in order: the running CRC of R100. -/
def crc32Run (c : Word32) (bs : List Byte) : Word32 := crc32Bits c (bs.flatMap bitsLsb)

/-- The final inversion (00_scope.md section 5.3). -/
def crc32Final (c : Word32) : Word32 := ~~~c

/-- The CRC-32 of bytes. -/
def crc32 (bs : List Byte) : Word32 := crc32Final (crc32Run crc32Init bs)

/-- The CRC-16 register carried over a run of bits, most significant bit of each byte first. -/
def crc16Bits (c : BitVec 16) : List Bool → BitVec 16
  | [] => c
  | b :: bs => if c.getLsbD 15 ^^ b then crc16Bits ((c <<< 1) ^^^ 0x1021#16) bs else crc16Bits (c <<< 1) bs

/-- The CRC-16 of bytes: polynomial 1021, initial value FFFF, no reflection, no final inversion. -/
def crc16 (bs : List Byte) : BitVec 16 := crc16Bits 0xFFFF#16 (bs.flatMap fun b => (bitsLsb b).reverse)

end Sys2Proof.Machine
end

