-- ==== Sys2Proof/Machine/SourcePorts.lean ====
section
/-! DEFINITION. The source port controller (Source Ports and Units): the port table, the probe and read operations, the
results of exchanges on each kind of port, timeouts, FAULT and its clearing, and the card sense input. -/

namespace Sys2Proof.Machine

/-! ### Kinds and entries (R1 to R5) -/

/-- How many units a kind serves, numbered from 0 (R1). -/
def PortKind.units : PortKind → Nat
  | .unused => 0 | .flash => 1 | .card => 1 | .block => 8 | .link => 4

/-- The operation timeout of a kind in milliseconds (R1). -/
def PortKind.timeoutMs : PortKind → Nat
  | .unused => 0 | .flash => 20 | .card => 200 | .block => 1000 | .link => 3000

/-- A unit record after a reset of its entry (R4, R5). -/
def freshUnit : UnitRecord := ⟨.unknown, .notReady, none⟩

/-- A port entry set up afresh for a kind, with the present level of its sense input (R4, R5). -/
def freshEntry (kind : PortKind) (sense : Bool) : PortEntry where
  kind := kind
  state := if kind = .unused then .off else .idle
  count := 0
  units := List.replicate kind.units freshUnit
  cardPresent := kind = .card && sense
  op := none
  hold := none

/-- The port table set up afresh from the kinds in force (R4). -/
def freshPorts (kinds : Four PortKind) (sense : Four Bool) : Four PortEntry :=
  ⟨freshEntry kinds.p0 sense.p0, freshEntry kinds.p1 sense.p1, freshEntry kinds.p2 sense.p2, freshEntry kinds.p3 sense.p3⟩

/-- The entry of a port, when the port table is set up. -/
def entryOf (p : Part) (port : Port) : Option PortEntry := p.spc.ports.map fun t => t.get port

/-- Replaces the entry of a port. -/
def setEntry (port : Port) (e : PortEntry) (p : Part) : Part :=
  { p with spc := { p.spc with ports := p.spc.ports.map fun t => t.set port e } }

/-- The entry's unit record, changed. -/
def setUnit (u : Nat) (r : UnitRecord) (e : PortEntry) : PortEntry := { e with units := e.units.set u r }

/-- A port's kind is set: its entry is reset, whether or not the kind changed (R5). -/
def resetEntry (port : Port) (kind : PortKind) (p : Part) : Part :=
  setEntry port (freshEntry kind (p.spc.sense.get port)) p

/-! ### LINK request frames (R18, R25) -/

/-- A request frame: start, type, slot, block, payload length 0 and the CRC-16 over bytes 1 to 8 (R25). -/
def linkRequest (type slot block : Nat) : List Byte :=
  let body := leBytes 1 type ++ leBytes 1 slot ++ leBytes 4 block ++ leBytes 2 0
  0x7E#8 :: body ++ leBytes 2 (crc16 body).toNat

/-- The request frame of an operation: INFO-REQ for a probe, READ-REQ with the block for a read (R18). -/
def linkFrame (op : PortOp) (unit : Nat) : List Byte :=
  match op with
  | .probe => linkRequest 0x01 unit 0
  | .read block _ _ => linkRequest 0x02 unit block

/-! ### Operations (R6 to R10) -/

/-- An exchange begun: the exchange timer runs at the kind's timeout, except that on a LINK port it starts when the last
byte of the request frame has been sent (R6, R18). -/
def beginExchange (e : PortEntry) (op : PortOp) (unit : Nat) (rq : Requester) : PortEntry :=
  { e with
    state := .busy
    op := some
      { op := op, unit := unit, requester := rq,
        timer := if e.kind = .link then none else some e.kind.timeoutMs
        frame := if e.kind = .link then linkFrame op unit else []
        received := [] } }

/-- A request for PROBE(unit): the result when a precondition decides it, otherwise the exchange begun (R6, R7). -/
def requestProbe (port : Port) (u : Nat) (rq : Requester) (p : Part) : Part × Option ProbeResult :=
  match entryOf p port with
  | none => (p, some .absent)
  | some e =>
    if e.kind.units ≤ u then (p, some .absent)
    else if e.state = .fault then (p, some .notReady)
    else if e.kind = .card ∧ e.cardPresent = false then
      (setEntry port (setUnit u ⟨.absent, .notReady, none⟩ e) p, some .absent)
    else (setEntry port (beginExchange e .probe u rq) p, none)

/-- What decides a READ before any exchange, in the order of R8: steps 1 to 6. -/
def readPrecondition (e : PortEntry) (u block : Nat) : Option ReadResult :=
  if e.state = .fault then some (.notReady block)
  else if e.kind.units ≤ u then some (.mediaLost block)
  else if e.kind = .card ∧ e.cardPresent = false then some (.mediaLost block)
  else
    match e.units[u]? with
    | none => some (.mediaLost block)
    | some r =>
      if r.presence ≠ .present then some (.mediaLost block)
      else if r.readiness = .notReady then some (.notReady block)
      else if r.capacity.getD 0 ≤ block then some (.outOfRange block)
      else none

/-- A request for READ(unit, block) (R6, R8). RETRIES is read when the READ begins (R9). -/
def requestRead (port : Port) (u block : Nat) (rq : Requester) (p : Part) : Part × Option ReadResult :=
  match entryOf p port with
  | none => (p, some (.mediaLost block))
  | some e =>
    match readPrecondition e u block with
    | some r => (p, some r)
    | none => (setEntry port (beginExchange e (.read block p.sst.settings.retries 0) u rq) p, none)

/-- The consecutive-timeout count after an exchange (R11). -/
def countAfter (r : ExchangeResult) (count : Nat) : Nat :=
  match r with
  | .timeout => count + 1
  | _ => 0

/-- The unit record after a probe's exchange (R3). -/
def unitAfterProbe (r : ExchangeResult) (u : UnitRecord) : UnitRecord :=
  match r with
  | .absent => ⟨.absent, .notReady, none⟩
  | .ready c => ⟨.present, .ready, some c⟩
  | .timeout => ⟨u.presence, .notReady, none⟩
  | _ => ⟨.present, .notReady, none⟩

/-- The unit record after a read's exchange (R3). -/
def unitAfterRead (r : ExchangeResult) (u : UnitRecord) : UnitRecord :=
  match r with
  | .notReady => ⟨u.presence, .notReady, none⟩
  | .mediaLost => ⟨.unknown, .notReady, none⟩
  | _ => u

/-- The result of a probe from its one exchange (R7). -/
def probeResult : ExchangeResult → ProbeResult
  | .absent => .absent
  | .ready c => .ready c
  | .timeout => .timeout
  | _ => .notReady

/-- The retry rule: the result that ends a READ, or none when another exchange is made (R9). `made` counts this exchange,
`count` is the port's count after it. -/
def readEnd (r : ExchangeResult) (block retries made count : Nat) : Option ReadResult :=
  match r with
  | .data bytes => some (.data bytes)
  | .notReady => some (.notReady block)
  | .mediaLost => some (.mediaLost block)
  | .timeout => if Config.faultCount ≤ count ∨ retries + 1 ≤ made then some (.readFault block) else none
  | _ => if retries + 1 ≤ made then some (.readFault block) else none

/-- The operation ends: it is removed, and the port is IDLE, or FAULT when the count has reached 3 (R6, R12). -/
def endOperation (e : PortEntry) : PortEntry :=
  { e with state := if Config.faultCount ≤ e.count then .fault else .idle, op := none }

/-- The end of an exchange: count and unit record, then another exchange or the end of the operation with its result and, at
a count of 3, notice 203 (R6, R9, R11, R12). The result is returned with its requester. -/
def finishExchange (port : Port) (e : PortEntry) (f : InFlight) (r : ExchangeResult) (p : Part) :
    Part × Option (Requester × OpResult) :=
  let count := countAfter r e.count
  let old := e.units.getD f.unit freshUnit
  let ended (e' : PortEntry) (res : OpResult) : Part × Option (Requester × OpResult) :=
    let p := setEntry port (endOperation e') p
    ((if Config.faultCount ≤ count then raise 203 none [.num port.num] p else p), some (f.requester, res))
  match f.op with
  | .probe => ended { setUnit f.unit (unitAfterProbe r old) e with count := count } (.probe (probeResult r))
  | .read block retries made =>
    let e' : PortEntry := { setUnit f.unit (unitAfterRead r old) e with count := count }
    match readEnd r block retries (made + 1) count with
    | some res => ended e' (.read res)
    | none => (setEntry port (beginExchange e' (.read block retries (made + 1)) f.unit f.requester) p, none)

/-- A withdrawn entry: the exchange stops, no result is delivered, the port is IDLE, count and unit records are kept (R10). -/
def withdrawEntry (e : PortEntry) : PortEntry :=
  match e.op with
  | none => e
  | some _ => { e with state := .idle, op := none }

/-- Withdraws the request in flight, on whichever port it is (R10). -/
def withdraw (p : Part) : Part :=
  { p with spc :=
    { p.spc with ports := p.spc.ports.map fun t =>
      ⟨withdrawEntry t.p0, withdrawEntry t.p1, withdrawEntry t.p2, withdrawEntry t.p3⟩ } }

/-- Clears FAULT on one port: IDLE, count 0, notice 204; a port not in FAULT is left as it is (R13). -/
def clearFault (port : Port) (p : Part) : Part :=
  match entryOf p port with
  | none => p
  | some e =>
    if e.state = .fault then
      raise 204 none [.num port.num] (setEntry port { e with state := .idle, count := 0 } p)
    else p

/-- Clears FAULT on every port in FAULT, in port order, at the start of a round (R13, R44). -/
def clearFaults (p : Part) : Part := Port.all.foldl (fun p port => clearFault port p) p

/-! ### Answers (R14, R16, R17, R19) -/

/-- The result of a FLASH exchange from the device's answer, none when the answer is not one to the operation (R14). -/
def flashResult (op : PortOp) (a : FlashAnswer) : Option ExchangeResult :=
  match op, a with
  | .probe, .identify b0 b1 b2 =>
    if (b0 = 0 ∧ b1 = 0 ∧ b2 = 0) ∨ (b0 = 0xFF ∧ b1 = 0xFF ∧ b2 = 0xFF) then some .absent
    else if b2.toNat < 0x10 ∨ 0x1F < b2.toNat then some .notReady
    else some (.ready (2 ^ (b2.toNat - 9)))
  | .read .., .block data uncorrectable =>
    if data.length ≠ Config.blockBytes then none
    else if uncorrectable then some .readFault else some (.data data)
  | _, _ => none

/-- The result of a CARD exchange from the card's answer (R16). -/
def cardResult (op : PortOp) (a : CardAnswer) : Option ExchangeResult :=
  match op, a with
  | .probe, .initialized c => some (if c = 0 then .notReady else .ready c.toNat)
  | .probe, .rejected => some .notReady
  | .probe, .stillInitializing => some .notReady
  | .read .., .block data checkWordCorrect =>
    if data.length ≠ Config.blockBytes then none
    else if checkWordCorrect then some (.data data) else some .readFault
  | .read .., .errorMark => some .readFault
  | .read .., .busyInitializing => some .notReady
  | _, _ => none

/-- The result of a BLOCK exchange from the status byte and what followed it (R17). -/
def blockResult (op : PortOp) (a : BlockAnswer) : Option ExchangeResult :=
  match op, a with
  | .probe, .noUnit => some .absent
  | .probe, .readyCapacity c => some (if c = 0 then .notReady else .ready c.toNat)
  | .probe, .spinningUp => some .notReady
  | .probe, .unitError => some .notReady
  | .probe, .otherStatus => some .notReady
  | .read .., .noUnit => some .mediaLost
  | .read .., .readyBlock data => if data.length ≠ Config.blockBytes then none else some (.data data)
  | .read .., .spinningUp => some .notReady
  | .read .., .unitError => some .readFault
  | .read .., .otherStatus => some .readFault
  | _, _ => none

/-- A LINK answer frame: type, slot, block, payload and whether its CRC-16 holds (R25). -/
structure LinkFrame where
  type : Nat
  slot : Nat
  block : Nat
  payload : List Byte
  crcHolds : Bool
  deriving DecidableEq, Repr

/-- What the bytes received so far make: not yet a frame, a malformed one, or a frame (R18). -/
inductive Assembled where
  | incomplete
  | malformed
  | frame (f : LinkFrame)
  deriving DecidableEq, Repr

/-- Assembles an answer frame: bytes before a start byte 7E are discarded, then eight header bytes, the payload whose length
they give, and two CRC bytes (R18, R25). -/
def assemble (received : List Byte) : Assembled :=
  match received.dropWhile fun b => b ≠ 0x7E with
  | [] => .incomplete
  | _ :: body =>
    if body.length < 8 then .incomplete
    else
      let len := field body 6 2
      if len ≠ 0 ∧ len ≠ 4 ∧ len ≠ 512 then .malformed
      else if body.length < 8 + len + 2 then .incomplete
      else .frame
        { type := field body 0 1, slot := field body 1 1, block := field body 2 4, payload := (body.drop 8).take len
          crcHolds := (crc16 (body.take (8 + len))).toNat = field body (8 + len) 2 }

/-- The bytes received after those that `assemble` makes a frame or a malformed one of: a malformed frame takes no byte after its
payload length, a frame none after its CRC (R18). -/
def afterFrame (received : List Byte) : List Byte :=
  match received.dropWhile fun b => b ≠ 0x7E with
  | [] => []
  | _ :: body =>
    let len := field body 6 2
    if len ≠ 0 ∧ len ≠ 4 ∧ len ≠ 512 then body.drop 8 else body.drop (8 + len + 2)

/-- Bytes received, cut after each frame they complete, the first together with what was received before them. Every piece but the
last holds at least one byte, so there are no more pieces than bytes, and one for what is left (R18). -/
def linkPieces : Nat → List Byte → List Byte → List (List Byte)
  | 0, _, _ => []
  | n + 1, received, bytes =>
    match assemble (received ++ bytes) with
    | .incomplete => [bytes]
    | _ =>
      let rest := afterFrame (received ++ bytes)
      bytes.take (bytes.length - rest.length) :: (if rest = [] then [] else linkPieces n [] rest)

/-- The result of a bad answer (R19). -/
def badAnswer : PortOp → ExchangeResult
  | .probe => .notReady
  | .read .. => .readFault

/-- Judges an answer frame (R19). -/
def judgeFrame (op : PortOp) (unit : Nat) (f : LinkFrame) : ExchangeResult :=
  if f.crcHolds = false ∨ f.slot ≠ unit then badAnswer op
  else
    match op, f.type with
    | .probe, 0x81 =>
      let c := leValue f.payload
      if f.payload.length = 4 ∧ c ≠ 0 then .ready c else .notReady
    | .probe, 0x82 => .notReady
    | .probe, 0x83 => .notReady
    | .probe, 0x84 => .absent
    | .read .., 0x81 => .readFault
    | .read block _ _, 0x82 => if f.payload.length = 512 ∧ f.block = block then .data f.payload else .readFault
    | .read .., 0x83 => .notReady
    | .read .., 0x84 => .mediaLost
    | op, _ => badAnswer op

/-! ### Sense input and removals (R15, R16) -/

/-- The entry after a card sense event: the flag, unit 0's record, and the hold ended (R15). -/
def cardEvent (card : Bool) (e : PortEntry) : PortEntry :=
  { setUnit 0 freshUnit e with cardPresent := card, hold := none }

/-- What a removal makes of the operation in flight: a READ ends with MEDIA-LOST and its block, a probe with ABSENT (R16). -/
def removalResult (f : InFlight) : Requester × OpResult :=
  match f.op with
  | .probe => (f.requester, .probe .absent)
  | .read block _ _ => (f.requester, .read (.mediaLost block))

/-- The entry after a removal ended its operation: count 0, IDLE (R11, R16). -/
def endByRemoval (e : PortEntry) : PortEntry :=
  match e.op with
  | none => e
  | some _ => { e with count := 0, state := .idle, op := none }

/-! ### The PORTS reply (R20) -/

def opFields (e : PortEntry) : List Field :=
  match e.op with
  | none => []
  | some f =>
    match f.op with
    | .probe => [.word "PROBE", .num f.unit]
    | .read block _ _ => [.word "READ", .num f.unit, .num block]

def portLine (port : Port) (e : PortEntry) : List Field :=
  [.num port.num, .word e.kind.name, .word e.state.name, .num e.count] ++
    (if e.kind = .card then [.word (if e.cardPresent then "CARD" else "NOCARD")] else []) ++ opFields e

def unitLine (port : Port) (u : Nat) (r : UnitRecord) : List Field :=
  [.num port.num, .num u, .word r.presence.name, .word r.readiness.name] ++
    (match r.readiness, r.capacity with
      | .ready, some c => [.num c]
      | _, _ => [])

def unitLines (port : Port) (u : Nat) : List UnitRecord → List (List Field)
  | [] => []
  | r :: rs => unitLine port u r :: unitLines port (u + 1) rs

/-- The lines of the PORTS reply: each port line, followed by the lines of its units (R20). -/
def portsLines (p : Part) : List (List Field) :=
  match p.spc.ports with
  | none => []
  | some t => Port.all.flatMap fun port => portLine port (t.get port) :: unitLines port 0 (t.get port).units

end Sys2Proof.Machine
end

