-- ==== Sys2Proof/Machine/Classifier.lean ====
section
/-! DEFINITION. The volume classifier (Volume Headers, Images and Classification): block 0 of a unit becomes one
classification and, for a volume that can be started, a parsed image record. All sums are on exact integers (R23). -/

namespace Sys2Proof.Machine

/-- A classification request (R26). -/
structure ClassifyRequest where
  block : List Byte
  capacity : Nat
  port : Port
  unit : Nat
  kind : PortKind
  raw : Bool
  deriving DecidableEq, Repr

/-- A segment descriptor as read from the header (R23). -/
structure Descriptor where
  target : Nat
  length : Nat
  source : Nat
  crc : Nat
  deriving DecidableEq, Repr

/-- The source block value that makes a FILL segment (R23). -/
def fillSource : Nat := 0xFFFFFFFF

/-- Blocks taken by a number of bytes, rounded up (R23). -/
def blocksFor (length : Nat) : Nat := (length + 511) / 512

/-- Descriptor k, for k from 1 (R22, R23). -/
def descriptor (block : List Byte) (k : Nat) : Descriptor :=
  let at0 := 32 + 16 * (k - 1)
  ⟨field block at0 4, field block (at0 + 4) 4, field block (at0 + 8) 4, field block (at0 + 12) 4⟩

/-- The descriptors 1 to the segment count, with their indexes (R22). -/
def descriptors (block : List Byte) : List (Nat × Descriptor) :=
  (List.range (field block 6 1)).map fun k => (k + 1, descriptor block (k + 1))

/-- Two target ranges share at least one address (R30). -/
def rangesOverlap (a al b bl : Nat) : Bool := a < b + bl && b < a + al

/-- An address lies in a target range (R23). -/
def inRange (a target length : Nat) : Bool := target ≤ a && a < target + length

/-! ### Structural checks (R29) -/

/-- The checks on one segment: LENGTH, TARGET-ALIGN and, for a DATA segment, SOURCE (R29 step 3). -/
def segmentFault (capacity : Nat) (d : Descriptor) : Option CheckName :=
  if d.length % 4 ≠ 0 ∨ d.length < 4 ∨ 0x1000000 < d.length then some .length
  else if d.target % 4 ≠ 0 then some .targetAlign
  else if d.source ≠ fillSource ∧ (d.source = 0 ∨ capacity < d.source + blocksFor d.length) then some .source
  else none

/-- The first segment that fails a structural check (R29 step 3). -/
def firstSegmentFault (capacity : Nat) : List (Nat × Descriptor) → Option (CheckName × Nat)
  | [] => none
  | (k, d) :: ds =>
    match segmentFault capacity d with
    | some c => some (c, k)
    | none => firstSegmentFault capacity ds

/-- The first structural check that fails, with the segment it concerns (R29). -/
def structuralFault (block : List Byte) (capacity : Nat) : Option (CheckName × Option Nat) :=
  let ds := descriptors block
  let entry := field block 12 4
  let handoff := field block 16 4
  if field block 8 4 = 0 then some (.imageId, none)
  else if ds.length = 0 ∨ 8 < ds.length then some (.segmentCount, none)
  else
    match firstSegmentFault capacity ds with
    | some (c, k) => some (c, some k)
    | none =>
      if ¬ds.any fun (_, d) => inRange entry d.target d.length then some (.entry, none)
      else if handoff ≠ 0 ∧ handoff % 4 ≠ 0 then some (.handoffAlign, none)
      else none

/-! ### Placement checks (R30, R31) -/

/-- The map and health as they stand when the request is taken (R26). -/
structure MapView where
  map : Eight (Option Region)
  health : Eight Health
  deriving DecidableEq, Repr

/-- The LOAD region that holds a whole range, when there is one (R30). -/
def loadRegion (map : Eight (Option Region)) (a length : Nat) : Option Idx :=
  match regionAt map a with
  | none => none
  | some i =>
    match map.get i with
    | none => none
    | some r => if r.load ∧ a + length ≤ r.base + r.size then some i else none

/-- The first segment whose range does not lie in one LOAD region (R30 step 1). -/
def firstOutside (map : Eight (Option Region)) : List (Nat × Descriptor) → Option (Nat × Descriptor)
  | [] => none
  | (k, d) :: ds => if (loadRegion map d.target d.length).isNone then some (k, d) else firstOutside map ds

/-- The smallest segment index that overlaps some segment with a lower index (R30 step 2). `before` are the lower ones. -/
def firstOverlap (before : List Descriptor) : List (Nat × Descriptor) → Option (Nat × Descriptor)
  | [] => none
  | (k, d) :: ds =>
    if before.any fun b => rangesOverlap b.target b.length d.target d.length then some (k, d)
    else firstOverlap (d :: before) ds

/-- Whether the handoff range passes HANDOFF-PLACE (R31 step 1); the range is 40 (64) bytes long. -/
def handoffPlaced (map : Eight (Option Region)) (ds : List (Nat × Descriptor)) (h : Nat) : Bool :=
  h = 0 || ((loadRegion map h Config.handoffBytes).isSome &&
    !ds.any fun (_, d) => rangesOverlap h Config.handoffBytes d.target d.length)

/-- Whether the region of an address is DEFECTIVE (R31 step 2). -/
def isDefective (v : MapView) (a : Nat) : Bool :=
  match regionAt v.map a with
  | some i => v.health.get i = .defective
  | none => false

/-- The placement checks: the classification of the first failure, or none when all pass (R30, R31). -/
def placementFault (v : MapView) (ds : List (Nat × Descriptor)) (h : Nat) (imageId : Word32) : Option Classification :=
  match firstOutside v.map ds with
  | some (k, d) =>
    some { volume := .mapConflict, check := some .notInLoad, segment := some k, region := regionAt v.map d.target,
           imageId := some imageId }
  | none =>
    match firstOverlap [] ds with
    | some (k, d) =>
      some { volume := .mapConflict, check := some .overlap, segment := some k, region := regionAt v.map d.target,
             imageId := some imageId }
    | none =>
      if ¬handoffPlaced v.map ds h then
        some { volume := .mapConflict, check := some .handoffPlace, handoffMark := true, region := regionAt v.map h,
               imageId := some imageId }
      else
        match ds.find? fun (_, d) => isDefective v d.target with
        | some (k, d) =>
          some { volume := .memoryDefective, check := some .defective, segment := some k,
                 region := regionAt v.map d.target, imageId := some imageId }
        | none =>
          if h ≠ 0 ∧ isDefective v h then
            some { volume := .memoryDefective, check := some .defective, handoffMark := true, region := regionAt v.map h,
                   imageId := some imageId }
          else none

/-! ### Image records (R32) -/

/-- The segment record of a descriptor; a raw candidate's segment has a source and no CRC (R32, R33). -/
def segmentRecord (map : Eight (Option Region)) (raw : Bool) (k : Nat) (d : Descriptor) : Segment where
  index := k
  target := d.target
  length := d.length
  source := if d.source = fillSource then none else some d.source
  crc := if raw ∨ d.source = fillSource then none else some (BitVec.ofNat 32 d.crc)
  region := (regionAt map d.target).getD .r1

/-- The image record of a header-built volume (R32). -/
def headerImage (rq : ClassifyRequest) (v : MapView) (ds : List (Nat × Descriptor)) : Image where
  port := rq.port
  unit := rq.unit
  kind := rq.kind
  raw := false
  imageId := BitVec.ofNat 32 (field rq.block 8 4)
  entry := field rq.block 12 4
  handoff := if field rq.block 16 4 = 0 then none else some (field rq.block 16 4)
  label := some ((rq.block.drop 20).take 12)
  confirm := field rq.block 7 1
  segments := ds.map fun (k, d) => segmentRecord v.map false k d

/-- The one segment of a raw candidate (R33). -/
def rawDescriptor (rawbase rawblocks : Nat) : Descriptor := ⟨rawbase, rawblocks * 512, 0, 0⟩

/-- The image record of a raw candidate (R33). -/
def rawImage (rq : ClassifyRequest) (v : MapView) (rawbase rawblocks : Nat) : Image where
  port := rq.port
  unit := rq.unit
  kind := rq.kind
  raw := true
  imageId := 0
  entry := rawbase
  handoff := none
  label := none
  confirm := 0
  segments := [segmentRecord v.map true 1 (rawDescriptor rawbase rawblocks)]

/-! ### The classification (R28, R33, R34) -/

/-- The header's image id when the class is 1 or 2 and the id is nonzero (R27). -/
def headerId (block : List Byte) : Option Word32 :=
  if (field block 5 1 = 1 ∨ field block 5 1 = 2) ∧ field block 8 4 ≠ 0 then some (BitVec.ofNat 32 (field block 8 4))
  else none

/-- The classification without a raw take, in the order of R28. A header of another version may still name an image id (DEDUCED,
notes/assumptions/16.md). -/
def classifyHeader (rq : ClassifyRequest) (v : MapView) : Classification :=
  let b := rq.block
  if b.take 4 ≠ [0x45, 0x4B, 0x4C, 0x31] then
    if b.all (· = 0x00) ∨ b.all (· = 0xFF) then { volume := .blank }
    else { volume := .unknown, check := some .signature }
  else if (crc32 (b.take 508)).toNat ≠ field b 508 4 then { volume := .damaged, check := some .headerCrc }
  else if field b 4 1 ≠ 1 then { volume := .unknown, check := some .version, imageId := headerId b }
  else if field b 5 1 ≠ 1 ∧ field b 5 1 ≠ 2 then { volume := .unknown, check := some .volumeClass }
  else if field b 5 1 = 2 then { volume := .dataOnly, imageId := headerId b }
  else
    match structuralFault b rq.capacity with
    | some (c, k) => { volume := .damaged, check := some c, segment := k, imageId := headerId b }
    | none =>
      match placementFault v (descriptors b) (field b 16 4) (BitVec.ofNat 32 (field b 8 4)) with
      | some c => c
      | none => { volume := .bootable, imageId := headerId b, image := some (headerImage rq v (descriptors b)) }

/-- The raw candidate's checks and its record (R33, R34). -/
def classifyRaw (rq : ClassifyRequest) (v : MapView) (rawbase rawblocks : Nat) : Classification :=
  if rq.capacity < rawblocks then { volume := .damaged, check := some .capacity, imageId := some 0 }
  else
    match placementFault v [(1, rawDescriptor rawbase rawblocks)] 0 0 with
    | some c => c
    | none => { volume := .bootable, imageId := some 0, image := some (rawImage rq v rawbase rawblocks) }

/-- VCL's one result: the classification, and for an UNKNOWN block with a raw take asked the raw candidate's (R28, R33). -/
def classify (rq : ClassifyRequest) (v : MapView) (rawbase rawblocks : Nat) : Classification :=
  let c := classifyHeader rq v
  if rq.raw ∧ c.volume = .unknown then classifyRaw rq v rawbase rawblocks else c

/-- A classification against the settings, map and health as they stand (R26). -/
def classifyNow (block : List Byte) (capacity : Nat) (port : Port) (unit : Nat) (raw : Bool) (p : Part) : Classification :=
  classify ⟨block, capacity, port, unit, p.sst.settings.kinds.get port, raw⟩ ⟨p.sst.settings.map, p.mmp.health⟩
    p.sst.settings.rawbase p.sst.settings.rawblocks

/-! ### The VOLUME reply (R36) -/

/-- The outcome line of a VOLUME reply: outcome word and the keyword pairs that are present (R36). -/
def volumeLine (port : Port) (unit : Nat) (outcome : String) (c : Classification) (block : Option Nat) : List Field :=
  [.num port.num, .num unit, .word outcome] ++
    (match c.check with
      | some n => [.word "CHECK", .word n.name]
      | none => []) ++
    optPair "SEG" c.segment ++ (if c.handoffMark then [.word "HANDOFF"] else []) ++
    optPair "REGION" (c.region.map Idx.num) ++ optPair "BLOCK" block ++ optPair "ID" (c.imageId.map BitVec.toNat)

/-- The line of one segment of a BOOTABLE volume (R36). -/
def segmentLine (s : Segment) : List Field :=
  [.word "SEG", .num s.index, .num s.target, .num s.length] ++
    (match s.source with
      | some b => [.word "DATA", .num b, .num (s.crc.getD 0).toNat]
      | none => [.word "FILL"]) ++
    [.word "REGION", .num s.region.num]

/-- The lines that follow for a BOOTABLE volume (R36). -/
def imageLines (i : Image) : List (List Field) :=
  [.word "ENTRY", .num i.entry, .word "HANDOFF", .num (i.handoff.getD 0), .word "CONFIRM", .num i.confirm, .word "LABEL",
    .label (i.label.getD [])] :: i.segments.map segmentLine

/-- The lines of a VOLUME reply from its classification (R36). -/
def volumeLines (port : Port) (unit : Nat) (c : Classification) : List (List Field) :=
  volumeLine port unit c.volume.name c none ::
    (match c.volume, c.image with
      | .bootable, some i => imageLines i
      | _, _ => [])

end Sys2Proof.Machine
end

