-- ==== Sys2Proof/Machine/Loader.lean ====
section
/-! DEFINITION. The loader (Loading and Staging): the image state, the load plan, the writes, the read-back, the handoff
record, and the end of a load. Each step of a load returns the end of the load when the step reaches it. -/

namespace Sys2Proof.Machine

def setLdr (f : Ldr → Ldr) (p : Part) : Part := { p with ldr := f p.ldr }

/-- The plan with its cursor at a point of the load. -/
def setPlan (plan : LoadPlan) (c : LoadCursor) (p : Part) : Part :=
  setLdr (fun l => { l with plan := some { plan with cursor := some c } }) p

/-- Candidate key of an image, and the fields a notice names it by (R101). -/
def Image.key (i : Image) : CandidateKey := ⟨i.port, i.unit, i.imageId⟩
def CandidateKey.fields (k : CandidateKey) : List Field := [.num k.port.num, .num k.unit, .num k.imageId.toNat]

/-! ### The end of a load (R109 to R111) -/

/-- A load fails: PARTIAL with its cursor, the attempt-log record, notice 702 (R110). -/
def failLoad (plan : LoadPlan) (o : AttemptOutcome) (detail : Nat) (p : Part) : Part × Option LoadEnd :=
  let p := appendRecord plan.tag plan.fields o (some detail) (some plan.image.imageId) p
  (raise 702 plan.tag
    [.num plan.image.port.num, .num plan.image.unit, .word o.name, .word "DETAIL", .num detail] p,
    some (.failed o detail))

/-- A load completes: STAGED, the LOADED record, notice 701 for a STAGE (R109). -/
def completeLoad (plan : LoadPlan) (p : Part) : Part × Option LoadEnd :=
  let p := setLdr (fun l => { l with image := .staged, plan := some { plan with cursor := none } }) p
  let p := appendRecord plan.tag plan.fields .loaded none (some plan.image.imageId) p
  (if plan.requester = .stage then raise 701 plan.tag plan.image.key.fields p else p, some .loaded)

/-- A load is aborted: PARTIAL with its cursor, the ABORTED record, notice 702 (R111 steps 2 to 4). -/
def abortLoad (plan : LoadPlan) (p : Part) : Part :=
  let p := appendRecord plan.tag plan.fields .aborted none (some plan.image.imageId) p
  raise 702 plan.tag [.num plan.image.port.num, .num plan.image.unit, .word "ABORTED"] p

/-! ### Requests of the loader (R103, R105, R106) -/

/-- A memory-port request of the load; a refusal ends it with MEMORY-FAULT and no health write (R106). -/
def loadTxn (kind : TxnKind) (plan : LoadPlan) (c : LoadCursor) (p : Part) : Part × Option LoadEnd :=
  followTo (requestTxn kind c.address .loader (setPlan plan c p)) fun _ p => failLoad plan .memoryFault c.address p

/-! ### Handoff record (R24, R108) -/

/-- The bytes of the handoff record before its CRC, from the state when it is built (R24, R108). -/
def handoffBody (plan : LoadPlan) (p : Part) : List Byte :=
  [0x45#8, 0x4B#8, 0x48#8, 0x31#8] ++ leBytes 1 1 ++ leBytes 1 plan.reason.code ++ leBytes 1 plan.fields.port.num ++
    leBytes 1 plan.fields.unit ++ wordBytes plan.image.imageId ++ leBytes 2 p.sre.nextSeq ++
    leBytes 1 (satSucc 0xFF p.sre.releaseCount) ++ leBytes 1 plan.image.kind.code ++ leBytes 2 (defectTotal p.mck) ++
    leBytes 2 0 ++ wordBytes ((p.sre.spent.getLast?.map CandidateKey.imageId).getD 0) ++
    (plan.image.label.getD (List.replicate 12 0)) ++ List.replicate 24 0

/-- The 64 bytes of the handoff record (R24). -/
def handoffRecord (plan : LoadPlan) (p : Part) : List Byte :=
  handoffBody plan p ++ wordBytes (crc32 (handoffBody plan p))

/-- The HANDOFF stage when the image names a handoff address, otherwise the end of the load (R108, R109). -/
def beginHandoff (plan : LoadPlan) (p : Part) : Part × Option LoadEnd :=
  match plan.image.handoff with
  | none => completeLoad plan p
  | some h =>
    let record := handoffRecord plan p
    loadTxn (.write (bytesWord record)) plan
      { stage := .handoff, segment := 0, block := 0, address := h, crc := 0, buffer := record, record := record } p

/-! ### Read-back (R107) -/

/-- The first DATA segment with an index from k on. -/
def dataSegmentFrom (k : Nat) (i : Image) : Option Segment :=
  i.segments.find? fun s => decide (k ≤ s.index) && s.source.isSome

/-- The read-back of the DATA segments from index k on, then the handoff stage (R107). -/
def verifyFrom (k : Nat) (plan : LoadPlan) (p : Part) : Part × Option LoadEnd :=
  match dataSegmentFrom k plan.image with
  | none => beginHandoff plan p
  | some s =>
    loadTxn .read plan
      { stage := .verify, segment := s.index, block := 0, address := s.target, crc := crc32Init, buffer := [], record := [] } p

/-! ### Writing (R102 to R105) -/

/-- A READ result judged in the WRITE stage (R105): on DATA the block's words that belong to the segment are written. -/
def loaderRead (r : ReadResult) (plan : LoadPlan) (c : LoadCursor) (s : Segment) (p : Part) : Part × Option LoadEnd :=
  match r with
  | .data bytes =>
    let buffer := bytes.take (s.target + s.length - c.address)
    loadTxn (.write (bytesWord buffer)) plan { c with block := c.block + 1, buffer := buffer } p
  | .readFault b => failLoad plan .readFault b p
  | .notReady b => failLoad plan .readFault b p
  | .mediaLost b => failLoad plan .mediaLost b p
  | .outOfRange _ => failLoad plan .damaged s.index p

/-- The request for the next source block of a DATA segment (R103 step 1). -/
def loadBlock (plan : LoadPlan) (c : LoadCursor) (s : Segment) (p : Part) : Part × Option LoadEnd :=
  followTo (requestRead plan.image.port plan.image.unit c.block .loader (setPlan plan c p)) fun r p =>
    loaderRead r plan c s p

/-- The segment of an index. -/
def segmentAt (k : Nat) (i : Image) : Option Segment := i.segments.find? fun s => s.index = k

/-- The writes of segment k, or what follows the last segment: the read-back when VERIFY is ON, else the handoff stage
(R101 step 6, R102, R103, R107). -/
def writeSegment (k : Nat) (plan : LoadPlan) (p : Part) : Part × Option LoadEnd :=
  match segmentAt k plan.image with
  | none => if plan.verify then verifyFrom 1 plan p else beginHandoff plan p
  | some s =>
    let c : LoadCursor :=
      { stage := .write, segment := k, block := s.source.getD 0, address := s.target, crc := crc32Init, buffer := [], record := [] }
    match s.source with
    | none => loadTxn (.write 0) plan c p
    | some _ => loadBlock plan c s p

/-- A load begins: any earlier plan and handoff record are dropped, the plan is set up, PARTIAL, notice 700, segment 1 (R101). -/
def beginLoad (image : Image) (fields : AttemptFields) (reason : BootReason) (requester : LoadRequester) (tag : Option Tag)
    (p : Part) : Part × Option LoadEnd :=
  let plan : LoadPlan :=
    { image := image, fields := fields, reason := reason, requester := requester, tag := tag, verify := p.sst.settings.verify,
      cursor := none, written := [] }
  let p := raise 700 tag image.key.fields { p with ldr := { image := .partly, plan := some plan, handoff := none } }
  writeSegment 1 plan p

/-! ### Outcomes of the load's transactions (R102 to R108) -/

/-- The end of a DATA segment's writes: the written CRC is kept and compared with the segment's CRC, when it has one (R104). -/
def endDataSegment (plan : LoadPlan) (c : LoadCursor) (s : Segment) (p : Part) : Part × Option LoadEnd :=
  let value := crc32Final c.crc
  let plan := { plan with written := plan.written ++ [(s.index, value)] }
  if (s.crc.getD value) = value then writeSegment (s.index + 1) plan p
  else failLoad plan .damaged s.index (setPlan plan c p)

/-- DONE in the WRITE stage (R102, R103). -/
def writeDone (plan : LoadPlan) (c : LoadCursor) (s : Segment) (p : Part) : Part × Option LoadEnd :=
  let next := c.address + 4
  match s.source with
  | none =>
    if next < s.target + s.length then loadTxn (.write 0) plan { c with address := next } p
    else writeSegment (s.index + 1) plan p
  | some _ =>
    let c := { c with address := next, crc := crc32Run c.crc (c.buffer.take 4), buffer := c.buffer.drop 4 }
    if s.target + s.length ≤ next then endDataSegment plan c s p
    else if c.buffer = [] then loadBlock plan c s p
    else loadTxn (.write (bytesWord c.buffer)) plan c p

/-- DONE in the VERIFY stage, with the word read (R107). -/
def verifyDone (plan : LoadPlan) (c : LoadCursor) (s : Segment) (w : Word32) (p : Part) : Part × Option LoadEnd :=
  let next := c.address + 4
  let c := { c with address := next, crc := crc32Run c.crc (wordBytes w) }
  if next < s.target + s.length then loadTxn .read plan c p
  else
    let written := ((plan.written.find? fun e => e.1 = s.index).map Prod.snd).getD 0
    if crc32Final c.crc = written then verifyFrom (s.index + 1) plan p
    else failLoad plan .memoryFault s.target (defectiveAt s.target (setPlan plan c p))

/-- DONE in the HANDOFF stage: the next word, or the record is kept and the load completes (R108). -/
def handoffDone (plan : LoadPlan) (c : LoadCursor) (p : Part) : Part × Option LoadEnd :=
  let rest := c.buffer.drop 4
  if rest = [] then
    completeLoad plan
      (setLdr (fun l => { l with handoff := some ⟨(plan.image.handoff).getD 0, c.record⟩ }) p)
  else loadTxn (.write (bytesWord rest)) plan { c with address := c.address + 4, buffer := rest } p

/-- The outcome of the load's transaction, taken with no abort pending (R106). -/
def loaderOutcome (o : TxnOutcome) (plan : LoadPlan) (c : LoadCursor) (p : Part) : Part × Option LoadEnd :=
  match o with
  | .done w =>
    match c.stage, segmentAt c.segment plan.image with
    | .handoff, _ => handoffDone plan c p
    | .write, some s => writeDone plan c s p
    | .verify, some s => verifyDone plan c s w p
    | _, none => (p, none)
  | _ => failLoad plan .memoryFault c.address (defectiveAt c.address p)

/-- The outcome of the transaction in flight when an abort was taken: a fault marks its region, nothing else (R111 step 1). -/
def loaderAbortOutcome (o : TxnOutcome) (a : Nat) (p : Part) : Part :=
  match o with
  | .done _ => p
  | _ => defectiveAt a p

end Sys2Proof.Machine
end

