-- ==== Sys2Proof/Machine/Release.lean ====
section
/-! DEFINITION. The release unit (Release, Confirmation and Fallback): the release, the confirmation window, the target line's
opening and closing, and the hold that ends a release. What follows a failed window is in Supervisor.lean. -/

namespace Sys2Proof.Machine

/-- The target line opens at TGTRATE with everything of it empty, and RLU accepts requests (R184). -/
def openTarget (p : Part) : Part :=
  { p with tgt := { closedTarget with isOpen := true, rate := p.sst.settings.tgtrate, accepting := true } }

/-- The target line closes: transmitter stopped, partial line and queues emptied (R186). -/
def closeTarget (p : Part) : Part := { p with tgt := { closedTarget with rate := p.tgt.rate } }

/-- The confirmation window of a confirm override, none for NONE (R120). -/
def windowOf (override confirmSetting : Nat) : Option Nat :=
  if override = 0 then (if confirmSetting = 0 then none else some confirmSetting)
  else if override = 0xFF then none
  else some override

/-- The released-candidate record of a release (R117). -/
def releasedRecord (plan : LoadPlan) (kind : ReleaseKind) (tag : Option Tag) (confirmSetting : Nat) : Released :=
  let w := windowOf plan.image.confirm confirmSetting
  { key := ⟨plan.fields.port, plan.fields.unit, plan.image.imageId⟩, fields := plan.fields, kind := kind, tag := tag,
    entry := plan.image.entry, handoff := plan.image.handoff, window := w,
    phase := if w.isSome then .confirmWait else .running }

/-- The release, taken as one (R118): RELEASED, the count, TRESET freed with the released-candidate record, the RELEASED
record, the target line, START, notice 710, the window, and the slot given back. -/
def release (kind : ReleaseKind) (tag : Option Tag) (p : Part) : Part :=
  match p.ldr.plan with
  | none => p
  | some plan =>
    let rel := releasedRecord plan kind tag p.sst.settings.confirm
    let p := { p with
      ldr := { p.ldr with image := .released }
      sre := { p.sre with releaseCount := satSucc 0xFF p.sre.releaseCount }
      rlu := { treset := .freed, released := some rel, windowTimer := rel.window }
      sup := { p.sup with mode := .targetRun rel.phase, slot := none, verbRun := none } }
    let p := appendRecord tag rel.fields .released none (some rel.key.imageId) p
    let p := openTarget p
    let p := handTarget { record := startRecord rel.entry rel.handoff } p
    raise 710 tag rel.key.fields p

/-- NONE asked of the loader at a hold: RELEASED becomes NONE and the plan is discarded (R99). -/
def imageNoneAtHold (p : Part) : Part :=
  match p.ldr.image with
  | .released => setLdr (fun l => { l with image := .nothing, plan := none }) p
  | _ => p

/-- The hold that ends a release: timer stopped, target line closed, TRESET asserted, image NONE (R125 steps 1 to 3,
R128 steps 1 to 4). -/
def holdTarget (p : Part) : Part :=
  let p := closeTarget p
  imageNoneAtHold { p with rlu := { p.rlu with treset := .asserted, windowTimer := none } }

/-- The released-candidate record becomes absent (R117). -/
def dropReleased (p : Part) : Part := { p with rlu := { p.rlu with released := none } }

/-- The candidate's key joins the spent list as its newest (R59). -/
def addSpent (k : CandidateKey) (p : Part) : Part :=
  { p with sre := { p.sre with spent := pushBounded Config.spentCapacity p.sre.spent k } }

/-! ### HAND (R127) -/

/-- The fields of the HAND reply, read from the 64 bytes as the loader wrote them (R24, R127). -/
def handFields (h : Handoff) : List Field :=
  let b := h.bytes
  [.num h.address, .word "REASON", .word (bootReasonWord (field b 5 1)), .word "PORT", .num (field b 6 1), .word "UNIT",
    .num (field b 7 1), .word "KIND", .word (portKindWord (field b 15 1)), .word "ID", .num (field b 8 4), .word "SEQ",
    .num (field b 12 2), .word "COUNT", .num (field b 14 1), .word "DEFECTS", .num (field b 16 2), .word "SPENT",
    .num (field b 20 4), .word "LABEL", .label ((b.drop 24).take 12)]

end Sys2Proof.Machine
end

