-- ==== Sys2Proof/Machine/Search.lean ====
section
/-! DEFINITION. The search engine (The Boot Order List and the Search): runs and rounds, the walk of the boot order list,
attempts, the question for an unrecognised volume, and the abort of a run. -/

namespace Sys2Proof.Machine

/-! ### Outcomes shared with BOOT and STAGE (R45, R46, R114) -/

/-- The outcome a probe result gives, or the capacity with which the attempt goes on (R45 step 2). -/
def probeOutcome : ProbeResult → AttemptOutcome ⊕ Nat
  | .absent => .inl .notPresent
  | .notReady => .inl .notReady
  | .timeout => .inl .notReady
  | .ready c => .inr c

/-- The outcome and detail a block-0 read result gives, or the 512 bytes (R45 step 3). -/
def block0Outcome : ReadResult → (AttemptOutcome × Option Nat) ⊕ List Byte
  | .data bytes => .inr bytes
  | .notReady _ => .inl (.notReady, none)
  | .readFault b => .inl (.readFault, some b)
  | .mediaLost b => .inl (.mediaLost, some b)
  | .outOfRange _ => .inl (.damaged, none)

/-- The outcome of a classification that is not BOOTABLE, with its detail; UNKNOWN as under policy SKIP (R46). -/
def classOutcome (c : Classification) : AttemptOutcome × Option Nat :=
  match c.volume with
  | .blank => (.blank, none)
  | .dataOnly => (.dataOnly, none)
  | .mapConflict => (.mapConflict, c.region.map Idx.num)
  | .memoryDefective => (.memoryDefective, c.region.map Idx.num)
  | .unknown => (.unknownSkipped, none)
  | .damaged | .bootable => (.damaged, none)

/-- The transient outcomes (R48). -/
def AttemptOutcome.transient : AttemptOutcome → Bool
  | .notReady | .readFault | .mediaLost => true
  | _ => false

/-! ### The run (R43) -/

def setSre (f : Sre → Sre) (p : Part) : Part := { p with sre := f p.sre }

/-- Changes the run state, when there is one. -/
def setRun (f : SearchRun → SearchRun) (p : Part) : Part := setSre (fun s => { s with run := s.run.map f }) p

/-- The run ends: its state becomes absent, and a wait or question timer stops. -/
def endRun (p : Part) : Part := setSre (fun s => { s with run := none, waitTimer := none, questionTimer := none }) p

/-- The tag that the run's notices carry (R43). -/
def runTagOf (p : Part) : Option Tag := p.sre.run.bind SearchRun.tag

/-- The boot order entry that the run stands at (R43). -/
def currentEntry (p : Part) : Option BootEntry :=
  match p.sre.run with
  | none => none
  | some r => if r.entry = 0 then none else p.sst.settings.order[r.entry - 1]?

/-- The attempt fields of the attempt in progress (R45). -/
def runFields (p : Part) : AttemptFields :=
  let port := ((currentEntry p).map BootEntry.port).getD .sp0
  match p.sre.run with
  | none => ⟨0, 0, port, 0⟩
  | some r => ⟨r.round, r.entry, port, r.unit⟩

/-- Appends an attempt-log record of the run (R56, R57). -/
def appendRunRecord (o : AttemptOutcome) (detail : Option Nat) (imageId : Option Word32) (p : Part) : Part :=
  appendRecord (runTagOf p) (runFields p) o detail imageId p

/-! ### The walk (R44, R48) -/

/-- A unit that the walk visits: the pass, the entry's number, the unit and the entry. -/
structure Position where
  pass : Pass
  entry : Nat
  unit : Nat
  spec : BootEntry
  deriving DecidableEq, Repr

/-- The units of the entries with a marking, in list order, each entry's from first to last; `k` is the first number. -/
def passPositions (pass : Pass) (resort : Bool) (k : Nat) : List BootEntry → List Position
  | [] => []
  | e :: es =>
    (if e.lastResort = resort then
      (List.range (e.last + 1 - e.first)).map fun n => ⟨pass, k, e.first + n, e⟩
    else []) ++ passPositions pass resort (k + 1) es

/-- All the units of a round in the order of the walk: the NORMAL pass, then the LAST-RESORT pass (R44). -/
def roundPositions (order : List BootEntry) : List Position :=
  passPositions .normal false 1 order ++ passPositions .lastResort true 1 order

/-- The units that the walk has still to visit after the one the run stands at. -/
def positionsAfter (r : SearchRun) (order : List BootEntry) : List Position :=
  ((roundPositions order).dropWhile fun x => decide (x.entry ≠ r.entry) || decide (x.unit ≠ r.unit)).tail

/-- The walk moves to a unit: tries used 0 (R44). -/
def moveTo (x : Position) (p : Part) : Part :=
  setRun (fun r => { r with pass := x.pass, entry := x.entry, unit := x.unit, triesUsed := 0 }) p

/-- An attempt begins: presence, then the probe (R45 steps 1 and 2). An outcome that needs no exchange is returned. -/
def startAttempt (port : Port) (unit : Nat) (p : Part) : Part × Option AttemptOutcome :=
  let p := setMode (.auto .search) (setRun (fun r => { r with stage := .probing }) p)
  match entryOf p port with
  | none => (p, some .notPresent)
  | some e =>
    if e.kind.units ≤ unit then (p, some .notPresent)
    else
      followTo (requestProbe port unit .search p) fun r p =>
        match probeOutcome r with
        | .inl o => (p, some o)
        | .inr _ => (p, none)

/-- An attempt has ended: tries used goes up by one (R48). -/
def countTry (p : Part) : Part := setRun (fun r => { r with triesUsed := r.triesUsed + 1 }) p

/-- Attempts on one unit, at most `n` of them, until one waits for an exchange (true) or the unit is done (R45, R48). -/
def tryUnit (x : Position) : Nat → Part → Part × Bool
  | 0, p => (p, false)
  | n + 1, p =>
    let a := startAttempt x.spec.port x.unit p
    match a.2 with
    | none => (a.1, true)
    | some o =>
      let p := countTry (appendRunRecord o none none a.1)
      if o.transient then tryUnit x n p else (p, false)

/-- The walk over units, until an attempt waits for an exchange (true) or the round is done (R44). -/
def walk : List Position → Part → Part × Bool
  | [], p => (p, false)
  | x :: xs, p =>
    let t := tryUnit x x.spec.tries (moveTo x p)
    if t.2 then t else walk xs t.1

/-- The end of a round without a release: notice 301, then the end of the run at MAXROUNDS, or the round wait (R49). -/
def endRound (p : Part) : Part :=
  match p.sre.run with
  | none => p
  | some r =>
    let p := raise 301 r.tag [.num r.round] p
    let max := p.sst.settings.maxrounds
    if max ≠ 0 ∧ max ≤ r.round then goIdle (endRun (raise 303 r.tag [.num r.round] p))
    else
      let seconds := if r.round ≤ 8 then p.sst.settings.shortwait else p.sst.settings.longwait
      setMode (.auto .wait)
        (setSre (fun s => { s with run := some { r with entry := 0, stage := .waiting }, waitTimer := some seconds }) p)

/-- Walks units and ends the round when none of them waits. -/
def walkOn (xs : List Position) (p : Part) : Part :=
  let w := walk xs p
  if w.2 then w.1 else endRound w.1

/-- A round begins (R44). -/
def beginRound (n : Nat) (p : Part) : Part :=
  let p := setMode (.auto .search)
    (setSre (fun s =>
      { s with
        lastRound := n
        waitTimer := none
        run := s.run.map fun r => { r with round := n, pass := .normal, entry := 0, unit := 0, triesUsed := 0, stage := .probing } })
      p)
  let p := clearFaults p
  walkOn (roundPositions p.sst.settings.order) p

/-- A search run begins (R43): the run state, the slot, notice 300, and its first round. -/
def beginRun (origin : Origin) (tag : Option Tag) (p : Part) : Part :=
  let n := match origin with
    | .fallback => min 0xFFFF (p.sre.lastRound + 1)
    | _ => 1
  let r : SearchRun := ⟨origin, tag, n, .normal, 0, 0, 0, none, .probing⟩
  let p := { p with
    sre := { p.sre with run := some r, waitTimer := none }
    sup := { p.sup with mode := .auto .search, slot := some .searchRun, runTag := tag, verbRun := none } }
  beginRound n (raise 300 tag [.num n, .word origin.name] p)

/-- The round wait ends and the next round begins (R50). -/
def endRoundWait (p : Part) : Part :=
  match p.sre.run with
  | none => p
  | some r => beginRound (min 0xFFFF (r.round + 1)) p

/-- What follows an attempt whose record has been appended and whose try has been counted: a new attempt on the unit after a
transient outcome with tries left, otherwise the next unit (R48). -/
def afterAttempt (o : AttemptOutcome) (p : Part) : Part :=
  match p.sre.run, currentEntry p with
  | some r, some e =>
    let xs := positionsAfter r p.sst.settings.order
    if o.transient then
      let t := tryUnit ⟨r.pass, r.entry, r.unit, e⟩ (e.tries - r.triesUsed) p
      if t.2 then t.1 else walkOn xs (setMode (.auto .search) t.1)
    else walkOn xs (setMode (.auto .search) p)
  | _, _ => p

/-- An attempt ends with an outcome of steps 1 to 5 or of the question (R45 to R48). -/
def endAttempt (o : AttemptOutcome) (detail : Option Nat) (imageId : Option Word32) (p : Part) : Part :=
  afterAttempt o (countTry (appendRunRecord o detail imageId p))

/-! ### Steps 5 to 8 of an attempt (R47) -/

/-- The boot reason of a run (R43, R101). -/
def Origin.reason : Origin → BootReason
  | .fallback => .fallback
  | _ => .auto

/-- The end of a load that the run asked for: the release after LOADED, otherwise the tries rule (R47 step 8, R48, R110). -/
def searchLoadEnd (e : LoadEnd) (p : Part) : Part :=
  match e with
  | .loaded => endRun (release .automatic (runTagOf p) p)
  | .failed o _ => afterAttempt o (countTry p)
  | .aborted => p

/-- A candidate that reached step 5: the spent check, the budget check and the load (R47). -/
def searchCandidate (image : Image) (p : Part) : Part :=
  if image.key ∈ p.sre.spent then endAttempt .spent none (some image.imageId) p
  else if p.sst.settings.budget ≤ p.sre.releaseCount then
    enterHalted .budget (endRun (appendRunRecord .budget none (some image.imageId) p))
  else
    match p.sre.run with
    | none => p
    | some r =>
      let fields := runFields p
      let p := setMode (.auto .load) (setRun (fun r => { r with stage := .loading }) p)
      follow (beginLoad image fields r.origin.reason .search r.tag p) fun e p => searchLoadEnd e p

/-! ### The question (R52 to R55) -/

/-- Raises a question: the held block, the next id, the record in its slot, the timer unless ASKWAIT is 0 (R52). -/
def raiseQuestion (port : Port) (unit : Nat) (held : HeldBlock) (p : Part) : Part :=
  let id := if p.sre.questionId = 0xFF then 1 else p.sre.questionId + 1
  let q : Question := ⟨id, port, unit⟩
  let wait := p.sst.settings.askwait
  let p := setSre (fun s =>
    { s with
      questionId := id
      question := some q
      questionTimer := if wait = 0 then none else some wait
      run := s.run.map fun r => { r with held := some held, stage := .question } }) p
  setMode (.auto .question) (handQuestion q p)

/-- The question ends: slot emptied, held block discarded, timer stopped (R52). -/
def endQuestion (p : Part) : Part :=
  let p := setSre (fun s =>
    { s with question := none, questionTimer := none, run := s.run.map fun r => { r with held := none } }) p
  { p with con := { p.con with question := none } }

/-- A pending question is withdrawn with notice 411, which carries the run's tag (R55, R189). -/
def withdrawQuestion (p : Part) : Part :=
  match p.sre.question with
  | none => p
  | some q => raise 411 (runTagOf p) [.num q.id] (endQuestion p)

/-! ### Results of the attempt's requests (R45, R46) -/

/-- The classification of step 4 or of an ANSWER YES, with the block it came from (R46). -/
def searchClassified (block : List Byte) (capacity : Nat) (c : Classification) (p : Part) : Part :=
  match c.volume, c.image, currentEntry p, p.sre.run with
  | .bootable, some image, _, _ => searchCandidate image p
  | .unknown, _, some e, some r =>
    if e.policy = .ask then raiseQuestion e.port r.unit ⟨block, capacity, c.imageId⟩ p
    else endAttempt .unknownSkipped none c.imageId p
  | _, _, _, _ => endAttempt (classOutcome c).1 (classOutcome c).2 c.imageId p

/-- The block-0 READ result delivered to the run (R45 steps 3 and 4). -/
def searchBlock0 (capacity : Nat) (r : ReadResult) (p : Part) : Part :=
  match block0Outcome r with
  | .inl (o, detail) => endAttempt o detail none p
  | .inr block =>
    match currentEntry p, p.sre.run with
    | some e, some run =>
      searchClassified block capacity (classifyNow block capacity e.port run.unit (e.policy = .take) p) p
    | _, _ => p

/-- The PROBE result delivered to the run (R45 step 2); READY goes on to the READ of block 0. -/
def searchProbe (r : ProbeResult) (p : Part) : Part :=
  match probeOutcome r with
  | .inl o => endAttempt o none none p
  | .inr capacity =>
    match currentEntry p, p.sre.run with
    | some e, some run =>
      follow (requestRead e.port run.unit 0 .search (setRun (fun r => { r with stage := .block0 capacity }) p)) fun res p =>
        searchBlock0 capacity res p
    | _, _ => p

/-- A result delivered to the run. -/
def searchResult (r : OpResult) (p : Part) : Part :=
  match r, p.sre.run.map SearchRun.stage with
  | .probe x, some .probing => searchProbe x p
  | .read x, some (.block0 capacity) => searchBlock0 capacity x p
  | _, _ => p

/-- The question ends by an outcome: UNKNOWN-DECLINED or UNKNOWN-TIMEOUT, with the image id when VCL gave one (R53, R54). -/
def questionOutcome (o : AttemptOutcome) (p : Part) : Part :=
  let imageId := (p.sre.run.bind SearchRun.held).bind HeldBlock.imageId
  endAttempt o none imageId (setMode (.auto .search) (endQuestion p))

/-- The question ends by YES: the held block is classified again with a raw take (R53). -/
def questionYes (p : Part) : Part :=
  match p.sre.run.bind SearchRun.held, currentEntry p, p.sre.run with
  | some h, some e, some r =>
    let p := setMode (.auto .search) (endQuestion p)
    searchClassified h.block h.capacity (classifyNow h.block h.capacity e.port r.unit true p) p
  | _, _, _ => endQuestion p

/-! ### Abort (R64) -/

/-- The abort of a run, with no memory transaction in flight: what R64 states for where it stands. -/
def abortRun (p : Part) : Part :=
  match p.sre.run with
  | none => p
  | some r =>
    let p :=
      match r.stage with
      | .probing | .block0 _ => appendRunRecord .aborted none none (withdraw p)
      | .question =>
        appendRunRecord .aborted none (r.held.bind HeldBlock.imageId) (withdrawQuestion p)
      | .loading =>
        match p.ldr.plan with
        | some plan => abortLoad plan (withdraw p)
        | none => p
      | .waiting => p
    endRun p

/-! ### Lists (R39 to R42, R58, R60) -/

/-- One line of ORDER LIST (R42). -/
def orderLine (k : Nat) (e : BootEntry) : List Field :=
  [.num k, .num e.port.num, .num e.first, .num e.last, .num e.tries, .word e.policy.name, .word (yesNo e.lastResort)]

/-- The lines of ORDER LIST, numbered from `k` (R42). -/
def orderLines (k : Nat) : List BootEntry → List (List Field)
  | [] => []
  | e :: es => orderLine k e :: orderLines (k + 1) es

/-- Moves entry i so that it becomes entry j (R41). -/
def moveEntry (l : List BootEntry) (i j : Nat) : List BootEntry :=
  match l[i - 1]? with
  | none => l
  | some e => let rest := l.eraseIdx (i - 1); rest.take (j - 1) ++ e :: rest.drop (j - 1)

end Sys2Proof.Machine
end

