-- ==== Sys2Proof/Machine/ManualRun.lean ====
section
/-! DEFINITION. The runs of the verbs that hold the slot in MANUAL BUSY other than CHECK: BOOT and STAGE (R114, R131), PROBE
(R21), VOLUME (R35 to R37), PEEK and POKE (R78 to R81). -/

namespace Sys2Proof.Machine

def setVerbRun (v : VerbRun) (p : Part) : Part := { p with sup := { p.sup with verbRun := some v } }

/-! ### BOOT and STAGE (R114, R131) -/

/-- The attempt fields of a manual verb: round 0, entry 0 (R56, R114). -/
def manualFields (port : Port) (unit : Nat) : AttemptFields := ⟨0, 0, port, unit⟩

/-- An attempt that ends with an outcome in steps 1 to 4: its record, notice 304, MANUAL IDLE (R114). -/
def endStart (tag : Option Tag) (port : Port) (unit : Nat) (o : AttemptOutcome) (detail : Option Nat)
    (imageId : Option Word32) (p : Part) : Part :=
  let p := appendRecord tag (manualFields port unit) o detail imageId p
  goIdle (raise 304 tag [.num port.num, .num unit, .word o.name] p)

/-- The end of the load of a BOOT or STAGE: a BOOT releases after LOADED, every other end leaves MANUAL IDLE (R109, R110, R131). -/
def startLoadEnd (boot : Bool) (tag : Option Tag) (e : LoadEnd) (p : Part) : Part :=
  match e, boot with
  | .loaded, true => release .manual tag p
  | _, _ => goIdle p

/-- A BOOTABLE image of a BOOT or STAGE: BOOT's spent check, then the load (R114 step 5, R131 steps 2 and 3). -/
def startCandidate (boot : Bool) (tag : Option Tag) (port : Port) (unit : Nat) (raw : Bool) (image : Image) (p : Part) : Part :=
  if boot ∧ image.key ∈ p.sre.spent then
    let p := appendRecord tag (manualFields port unit) .spent none (some image.imageId) p
    goIdle (raise 305 tag image.key.fields p)
  else
    let p := setVerbRun (.start boot tag port unit raw .loading) p
    follow
      (beginLoad image (manualFields port unit) (if boot then .manualBoot else .manualGo) (if boot then .boot else .stage)
        tag p)
      fun e p => startLoadEnd boot tag e p

/-- The block-0 READ result of a BOOT or STAGE, and its classification (R114 steps 3 and 4). -/
def startBlock0 (boot : Bool) (tag : Option Tag) (port : Port) (unit : Nat) (raw : Bool) (capacity : Nat) (r : ReadResult)
    (p : Part) : Part :=
  match block0Outcome r with
  | .inl (o, detail) => endStart tag port unit o detail none p
  | .inr block =>
    let c := classifyNow block capacity port unit raw p
    match c.volume, c.image with
    | .bootable, some image => startCandidate boot tag port unit raw image p
    | _, _ => endStart tag port unit (classOutcome c).1 (classOutcome c).2 c.imageId p

/-- The PROBE result of a BOOT or STAGE (R114 step 2). -/
def startProbe (boot : Bool) (tag : Option Tag) (port : Port) (unit : Nat) (raw : Bool) (r : ProbeResult) (p : Part) : Part :=
  match probeOutcome r with
  | .inl o => endStart tag port unit o none none p
  | .inr capacity =>
    follow (requestRead port unit 0 .manualStart (setVerbRun (.start boot tag port unit raw (.block0 capacity)) p))
      fun res p => startBlock0 boot tag port unit raw capacity res p

/-- The attempt of an accepted BOOT or STAGE begins: presence, then the probe (R114 steps 1 and 2). -/
def beginStart (boot : Bool) (tag : Option Tag) (port : Port) (unit : Nat) (raw : Bool) (p : Part) : Part :=
  match entryOf p port with
  | none => endStart tag port unit .notPresent none none p
  | some e =>
    if e.kind.units ≤ unit then endStart tag port unit .notPresent none none p
    else
      follow (requestProbe port unit .manualStart p) fun r p => startProbe boot tag port unit raw r p

/-- The ABORTED record and notice of a BOOT or STAGE aborted before its load (R114). -/
def abortStart (tag : Option Tag) (port : Port) (unit : Nat) (p : Part) : Part :=
  let p := appendRecord tag (manualFields port unit) .aborted none none (withdraw p)
  raise 702 tag [.num port.num, .num unit, .word "ABORTED"] p

/-! ### PROBE (R21) -/

def probeFields : ProbeResult → List Field
  | .absent => [.word "ABSENT"]
  | .notReady => [.word "NOT-READY"]
  | .ready c => [.word "READY", .num c]
  | .timeout => [.word "TIMEOUT"]

/-- The reply of PROBE, and the slot given back when it has been handed to RLN (R21). -/
def endProbe (tag : Option Tag) (port : Port) (unit : Nat) (r : ProbeResult) (p : Part) : Part :=
  goIdle (replyRecord (accepted 0 tag ([.num port.num, .num unit] ++ probeFields r)) p)

/-- An accepted PROBE, with the slot held: count 0, a FAULT cleared with notice 204, the probe requested (R21). -/
def beginProbe (tag : Option Tag) (port : Port) (unit : Nat) (p : Part) : Part :=
  let p := clearFault port p
  let p := match entryOf p port with
    | some e => setEntry port { e with count := 0 } p
    | none => p
  follow (requestProbe port unit .probeVerb p) fun r p => endProbe tag port unit r p

/-! ### VOLUME (R35, R36) -/

/-- The reply of VOLUME, and the slot given back (R35 step 4, R36). -/
def endVolume (tag : Option Tag) (lines : List (List Field)) (p : Part) : Part :=
  goIdle (replyRecord (multiLine tag lines) p)

/-- The one line of a VOLUME reply that no classification gave, with BLOCK 0 when the read failed on it (R35, R36). -/
def plainVolume (tag : Option Tag) (port : Port) (unit : Nat) (outcome : String) (block : Option Nat) (p : Part) : Part :=
  endVolume tag [volumeLine port unit outcome { volume := .unknown } block] p

/-- The block-0 READ result of a VOLUME (R35 steps 2 and 3). -/
def volumeRead (tag : Option Tag) (port : Port) (unit capacity : Nat) (r : ReadResult) (p : Part) : Part :=
  match r with
  | .data bytes => endVolume tag (volumeLines port unit (classifyNow bytes capacity port unit false p)) p
  | .readFault b => plainVolume tag port unit "READ-FAULT" (some b) p
  | .mediaLost b => plainVolume tag port unit "MEDIA-LOST" (some b) p
  | .notReady _ => plainVolume tag port unit "NOT-READY" none p
  | .outOfRange _ =>
    endVolume tag [volumeLine port unit "DAMAGED" { volume := .damaged, check := some .capacity } none] p

/-- The PROBE result of a VOLUME (R35 step 1). -/
def volumeProbe (tag : Option Tag) (port : Port) (unit : Nat) (r : ProbeResult) (p : Part) : Part :=
  match r with
  | .absent => plainVolume tag port unit "NOT-PRESENT" none p
  | .notReady => plainVolume tag port unit "NOT-READY" none p
  | .timeout => plainVolume tag port unit "NOT-READY" none p
  | .ready capacity =>
    follow (requestRead port unit 0 .volumeVerb (setVerbRun (.volume tag port unit (some capacity)) p)) fun res p =>
      volumeRead tag port unit capacity res p

/-- An accepted VOLUME, with the slot held (R35 step 1). -/
def beginVolume (tag : Option Tag) (port : Port) (unit : Nat) (p : Part) : Part :=
  follow (requestProbe port unit .volumeVerb p) fun r p => volumeProbe tag port unit r p

/-- A port operation's result delivered to the verb that holds the slot. -/
def verbResult (r : OpResult) (p : Part) : Part :=
  match r, p.sup.verbRun with
  | .probe x, some (.probe tag port unit) => endProbe tag port unit x p
  | .probe x, some (.volume tag port unit none) => volumeProbe tag port unit x p
  | .read x, some (.volume tag port unit (some capacity)) => volumeRead tag port unit capacity x p
  | .probe x, some (.start boot tag port unit raw .probing) => startProbe boot tag port unit raw x p
  | .read x, some (.start boot tag port unit raw (.block0 capacity)) => startBlock0 boot tag port unit raw capacity x p
  | _, _ => p

/-! ### PEEK and POKE (R78 to R81) -/

/-- The word line of one ended READ (R79). -/
def peekLine (w : Nat × PeekWord) : List Field :=
  [.num w.1, match w.2 with
    | .word x => .num x.toNat
    | .code c => .code c]

/-- What an outcome leaves in its word line (R79). -/
def peekWordOf : TxnOutcome → PeekWord
  | .done w => .word w
  | .noResponse => .code 602
  | .busError => .code 603

/-- The reply of PEEK, with one line for each word read (R79). -/
def endPeek (tag : Option Tag) (words : List (Nat × PeekWord)) (p : Part) : Part :=
  goIdle (replyRecord (multiLine tag (words.map peekLine)) p)

/-- The READs of a PEEK from an address on, `left` of them: the next READ is requested, or the reply is handed. A refusal
cannot arise inside the run (R78); it would be kept as the word's code. -/
def peekFrom (tag : Option Tag) (a : Nat) (words : List (Nat × PeekWord)) : Nat → Part → Part
  | 0, p => endPeek tag words p
  | n + 1, p =>
    follow (requestTxn .read a .peek (setVerbRun (.peek tag a (n + 1) words) p)) fun r p =>
      peekFrom tag (a + 4) (words ++ [(a, .code r.code)]) n p

/-- The reply of POKE to its transaction's outcome (R80). -/
def endPoke (tag : Option Tag) (o : TxnOutcome) (p : Part) : Part :=
  goIdle (match o with
    | .done _ => replyOk tag p
    | .noResponse => refuse 602 tag p
    | .busError => refuse 603 tag p)

/-- An accepted POKE, with the slot held: one WRITE, whose refusal is its reply (R80). -/
def beginPoke (tag : Option Tag) (a v : Nat) (p : Part) : Part :=
  follow (requestTxn (.write (BitVec.ofNat 32 v)) a .poke p) fun r p => goIdle (refuse r.code tag p)

end Sys2Proof.Machine
end

