-- ==== Sys2Proof/Machine/SettingsStore.lean ====
section
/-! DEFINITION. The settings store (Settings Store): the named settings by name, the judgement of a value, the stored copies,
the choice of the working settings, and the console rate switch that a change of CONRATE sets pending (R183). -/

namespace Sys2Proof.Machine

/-! ### Named settings (R154) -/

/-- The names of the settings (R154). -/
inductive SettingName where
  | conrate | tgtrate | autostart | autocheck | checkfail | shortwait | longwait | maxrounds | askwait | confirm | budget
  | verify | rawbase | rawblocks | retries
  | portKind (p : Port)
  deriving DecidableEq, Repr

/-- The setting names as a request writes them (R154). -/
def settingNames : List (String × SettingName) :=
  [("CONRATE", .conrate), ("TGTRATE", .tgtrate), ("AUTOSTART", .autostart), ("AUTOCHECK", .autocheck),
    ("CHECKFAIL", .checkfail), ("SHORTWAIT", .shortwait), ("LONGWAIT", .longwait), ("MAXROUNDS", .maxrounds),
    ("ASKWAIT", .askwait), ("CONFIRM", .confirm), ("BUDGET", .budget), ("VERIFY", .verify), ("RAWBASE", .rawbase),
    ("RAWBLOCKS", .rawblocks), ("RETRIES", .retries), ("PORT0KIND", .portKind .sp0), ("PORT1KIND", .portKind .sp1),
    ("PORT2KIND", .portKind .sp2), ("PORT3KIND", .portKind .sp3)]

def SettingName.name : SettingName → String
  | .conrate => "CONRATE" | .tgtrate => "TGTRATE" | .autostart => "AUTOSTART" | .autocheck => "AUTOCHECK"
  | .checkfail => "CHECKFAIL" | .shortwait => "SHORTWAIT" | .longwait => "LONGWAIT" | .maxrounds => "MAXROUNDS"
  | .askwait => "ASKWAIT" | .confirm => "CONFIRM" | .budget => "BUDGET" | .verify => "VERIFY" | .rawbase => "RAWBASE"
  | .rawblocks => "RAWBLOCKS" | .retries => "RETRIES"
  | .portKind .sp0 => "PORT0KIND" | .portKind .sp1 => "PORT1KIND" | .portKind .sp2 => "PORT2KIND"
  | .portKind .sp3 => "PORT3KIND"

/-- A setting's value as the part writes it: hexadecimal, or its keyword (R159). -/
def settingField (s : Settings) : SettingName → Field
  | .conrate => .num s.conrate
  | .tgtrate => .num s.tgtrate
  | .autostart => .word (onOff s.autostart)
  | .autocheck => .word s.autocheck.name
  | .checkfail => .word s.checkfail.name
  | .shortwait => .num s.shortwait
  | .longwait => .num s.longwait
  | .maxrounds => .num s.maxrounds
  | .askwait => .num s.askwait
  | .confirm => .num s.confirm
  | .budget => .num s.budget
  | .verify => .word (onOff s.verify)
  | .rawbase => .num s.rawbase
  | .rawblocks => .num s.rawblocks
  | .retries => .num s.retries
  | .portKind p => .word (s.kinds.get p).name

/-- The six line rates (R154). -/
def lineRates : List Nat := [9600, 19200, 38400, 57600, 115200, 230400]

/-- Whether a number is in a numeric setting's range (R154, R156 step 2). -/
def settingRange : SettingName → Nat → Bool
  | .conrate, n => lineRates.contains n
  | .tgtrate, n => lineRates.contains n
  | .shortwait, n => 1 ≤ n && n ≤ 60
  | .longwait, n => 10 ≤ n && n ≤ 3600
  | .maxrounds, n => n ≤ 255
  | .askwait, n => n ≤ 600
  | .confirm, n => n ≤ 600
  | .budget, n => 1 ≤ n && n ≤ 8
  | .rawbase, n => n ≤ 0xFFFFF000 && n % 0x1000 == 0
  | .rawblocks, n => 1 ≤ n && n ≤ 256
  | .retries, n => n ≤ 7
  | _, _ => false

/-- The setting takes a number (R154). -/
def SettingName.numeric : SettingName → Bool
  | .autostart | .autocheck | .checkfail | .verify | .portKind _ => false
  | _ => true

/-- A numeric setting replaced. -/
def setNumber (s : Settings) : SettingName → Nat → Settings
  | .conrate, n => { s with conrate := n }
  | .tgtrate, n => { s with tgtrate := n }
  | .shortwait, n => { s with shortwait := n }
  | .longwait, n => { s with longwait := n }
  | .maxrounds, n => { s with maxrounds := n }
  | .askwait, n => { s with askwait := n }
  | .confirm, n => { s with confirm := n }
  | .budget, n => { s with budget := n }
  | .rawbase, n => { s with rawbase := n }
  | .rawblocks, n => { s with rawblocks := n }
  | .retries, n => { s with retries := n }
  | _, _ => s

def onOffWords : List (String × Bool) := [("ON", true), ("OFF", false)]
def autoCheckWords : List (String × AutoCheck) := [("NONE", .nothing), ("QUICK", .quick), ("WALK", .walk)]
def checkFailWords : List (String × CheckFail) := [("HALT", .halt), ("CONTINUE", .carryOn)]
def portKindWords : List (String × PortKind) :=
  [("NONE", .unused), ("FLASH", .flash), ("CARD", .card), ("BLOCK", .block), ("LINK", .link)]

/-- A keyword setting replaced, when the keyword is one of its own (R156 step 1). -/
def setKeyword (s : Settings) (n : SettingName) (w : Text) : Option Settings :=
  match n with
  | .autostart => (findWord onOffWords w).map fun b => { s with autostart := b }
  | .verify => (findWord onOffWords w).map fun b => { s with verify := b }
  | .autocheck => (findWord autoCheckWords w).map fun k => { s with autocheck := k }
  | .checkfail => (findWord checkFailWords w).map fun k => { s with checkfail := k }
  | .portKind p => (findWord portKindWords w).map fun k => { s with kinds := s.kinds.set p k }
  | _ => none

/-- The judgement of SET's value, steps 1 and 2 of R156: a refusal code, or the settings with the new value. -/
def judgeSetting (s : Settings) (n : SettingName) (v : Arg) : Nat ⊕ Settings :=
  match v with
  | .num x =>
    if n.numeric then (if settingRange n x then .inr (setNumber s n x) else .inl 112) else .inl 111
  | .word w =>
    match setKeyword s n w with
    | some s' => .inr s'
    | none => .inl 111

/-! ### Stored copies (R160) -/

/-- The numbers a copy stores for a boot order entry, in the order of R38. -/
def entryWords (e : BootEntry) : List Nat :=
  [e.port.num, e.first, e.last, e.tries, (match e.policy with | .skip => 0 | .ask => 1 | .take => 2), e.lastResort.toNat]

/-- The numbers a copy stores for one index of the map. -/
def regionWords : Option Region → List Nat
  | none => [0]
  | some r => [1, r.base, r.size, r.load.toNat, r.check.toNat, r.preserve.toNat]

/-- The numbers a copy stores for the settings: every named setting, the list with its entry count, all eight indexes of the
map (R160). DESIGN CHOICE (notes/assumptions/4.md): the spec gives the parts and their order, not their bytes. -/
def settingsWords (s : Settings) : List Nat :=
  [s.conrate, s.tgtrate, s.autostart.toNat, (match s.autocheck with | .nothing => 0 | .quick => 1 | .walk => 2),
    (match s.checkfail with | .halt => 0 | .carryOn => 1), s.shortwait, s.longwait, s.maxrounds, s.askwait, s.confirm,
    s.budget, s.verify.toNat, s.rawbase, s.rawblocks, s.retries] ++
    Port.all.map (fun p => (s.kinds.get p).code) ++ [s.order.length] ++ s.order.flatMap entryWords ++
    Idx.all.flatMap fun i => regionWords (s.map.get i)

/-- The bytes a copy's CRC-32 is computed over: generation and settings (R160). -/
def storedBytes (generation : Nat) (s : Settings) : List Byte :=
  leBytes 4 generation ++ (settingsWords s).flatMap (leBytes 4)

/-- The copy that a SAVE programs: generation, snapshot and the CRC-32 over both (R160, R163). -/
def storedCopy (generation : Nat) (s : Settings) : StoredCopy := ⟨generation, s, crc32 (storedBytes generation s)⟩

/-- A copy is valid when its CRC-32 is that of its generation and settings (R160). -/
def StoredCopy.valid (c : StoredCopy) : Bool := crc32 (storedBytes c.generation c.settings) = c.crc

/-- The valid copy an area holds, when there is one (R160). -/
def validCopy : Option StoredCopy → Option StoredCopy
  | none => none
  | some c => if c.valid then some c else none

/-- The copy of an area. -/
def areaCopy (t : Sst) : Area → Option StoredCopy
  | .a => t.areaA
  | .b => t.areaB

/-- An area's contents replaced. -/
def setArea (t : Sst) (area : Area) (c : Option StoredCopy) : Sst :=
  match area with
  | .a => { t with areaA := c }
  | .b => { t with areaB := c }

/-- An area's copy record replaced. -/
def setCopyRecord (t : Sst) (area : Area) (g : Option Nat) : Sst :=
  match area with
  | .a => { t with recordA := g }
  | .b => { t with recordB := g }

/-- Where the settings come from when an area is chosen (R166). -/
def Area.source : Area → Source
  | .a => .a
  | .b => .b

/-- The choice of the working settings: both areas read, the newest valid copy, or the defaults (R161 steps 1 and 2). -/
def chooseSettings (t : Sst) : Sst :=
  let t := { t with
    recordA := (validCopy t.areaA).map StoredCopy.generation
    recordB := (validCopy t.areaB).map StoredCopy.generation }
  match newestArea t with
  | none => { t with settings := defaultSettings, source := .defaults }
  | some area =>
    match areaCopy t area with
    | none => { t with settings := defaultSettings, source := .defaults }
    | some c => { t with settings := c.settings, source := area.source }

/-! ### SAVE (R162, R163) -/

/-- The area a SAVE writes: the one that does not hold the newest copy, or A (R162 step 2). -/
def saveTarget (t : Sst) : Area :=
  match newestArea t with
  | some .a => .b
  | _ => .a

/-- A SAVE is accepted: the target area's record INVALID, the save in flight, and the write begun, which erases the area
(R162 steps 1 to 5 and 7, R163 step 1; the erasure at once is DEDUCED, notes/assumptions/20.md). -/
def beginSave (tag : Option Tag) (p : Part) : Part :=
  let area := saveTarget p.sst
  let t := setArea (setCopyRecord p.sst area none) area none
  { p with sst := { t with saving := some ⟨area, newestGeneration p.sst + 1, p.sst.settings, tag⟩ } }

/-- The write ends DONE: the area holds the copy, VALID, notice 900 (R163). -/
def saveDone (s : Save) (p : Part) : Part :=
  let t := setCopyRecord (setArea p.sst s.area (some (storedCopy s.generation s.snapshot))) s.area (some s.generation)
  raise 900 s.tag [.word s.area.name, .num s.generation] { p with sst := { t with saving := none } }

/-- The write has FAILED: the record stays INVALID, notice 901 (R163). -/
def saveFailed (s : Save) (p : Part) : Part :=
  raise 901 s.tag [.word s.area.name] { p with sst := { p.sst with saving := none } }

/-! ### Console rate (R157, R183) -/

/-- Removes the rate switch from what waits for a reply's last character (R183; DEDUCED, notes/assumptions/23.md). -/
def unmarkRate (c : Console) : Console :=
  { c with
    tx := c.tx.map fun i => { i with rateSwitch := false }
    replies := c.replies.map fun i => { i with rateSwitch := false } }

/-- A SET of CONRATE or a DEFAULTS is accepted and leaves a CONRATE: whether a switch waits for its reply, and the console
with the pending switch set, replaced or cancelled (R157, R183). -/
def requestRate (rate : Nat) (c : Console) : Bool × Console :=
  if rate ≠ c.rate then (true, { unmarkRate c with pendingRate := some rate })
  else if c.pendingRate.isSome then (false, { unmarkRate c with pendingRate := none })
  else (false, c)

/-- The switch is made: receiver and transmitter take the pending rate together (R183). -/
def switchRate (c : Console) : Console :=
  match c.pendingRate with
  | some r => { c with rate := r, pendingRate := none }
  | none => c

/-- The settings are settled after a POWER-ON or PIN: the switch to CONRATE is pending until the record being sent has left,
and is made at once when none is (R161, R183). -/
def settleRate (rate : Nat) (c : Console) : Console :=
  if rate = c.rate then c
  else
    match c.tx with
    | none => { c with rate := rate }
    | some i => { c with pendingRate := some rate, tx := some { i with rateSwitch := true } }

/-! ### DEFAULTS (R165) -/

/-- The ports whose kind DEFAULTS would change. -/
def changedKinds (s : Settings) : List Port := Port.all.filter fun p => s.kinds.get p ≠ defaultSettings.kinds.get p

/-- The indexes whose region DEFAULTS would change (R72). -/
def changedRegions (s : Settings) : List Idx := Idx.all.filter fun i => s.map.get i ≠ defaultSettings.map.get i

/-- The default settings put in force: changed port entries reset, changed regions UNCHECKED, source DEFAULTS (R165). -/
def loadDefaults (p : Part) : Part :=
  let kinds := changedKinds p.sst.settings
  let regions := changedRegions p.sst.settings
  let p := { p with sst := { p.sst with settings := defaultSettings, source := .defaults } }
  let p := kinds.foldl (fun p port => resetEntry port (defaultSettings.kinds.get port) p) p
  regions.foldl (fun p i => setHealth i .unchecked p) p

end Sys2Proof.Machine
end

