-- ==== Sys2Proof/Machine/Supervisor.lean ====
section
/-! DEFINITION. The start-up supervisor (The Start-up Supervisor): resets, the end of INIT, the end of a check, the delivery of
port and memory results to the operation that waits for them, break and ABORT, and the end of a confirmation window. -/

namespace Sys2Proof.Machine

/-! ### Resets (R138) -/

/-- A reset of kind POWER-ON or PIN: every block at its value after it; the settings memory, where a write in progress left its
area without a valid copy, and the levels of the sense inputs stay (R4, R138, R164, R168, R187). -/
def takePowerReset (cause : ResetCause) (p : Part) : Part :=
  powerReset cause p.sst.areaA p.sst.areaB p.spc.sense

/-- Removes the RESTART that waits for a reply's last character: a reset ends a pending RESTART (R152, R187; DEDUCED,
notes/assumptions/23.md). -/
def unmarkRestart (c : Console) : Console :=
  { c with
    tx := c.tx.map fun i => { i with restart := false }
    replies := c.replies.map fun i => { i with restart := false } }

/-- A reset of kind RESTART: a pending question withdrawn with notice 411, every block at its value after RESTART; settings,
map, health, attempt log, defect list, a SAVE in flight and the console line are kept (R4, R65, R77, R96, R112, R134, R135,
R152, R168, R187, R189). SST reports settled at once (R161). The partial line is kept, as R187 says (DEDUCED,
notes/assumptions/9.md). -/
def takeRestart (p : Part) : Part :=
  let p := withdrawQuestion p
  { p with
    spc := { p.spc with ports := some (freshPorts p.sst.settings.kinds p.spc.sense) }
    sre := { p.sre with run := none, spent := [], releaseCount := 0, question := none, questionTimer := none, waitTimer := none }
    mmp := { p.mmp with txn := none }
    mck := { p.mck with run := none }
    ldr := { image := .nothing, plan := none, handoff := none }
    rlu := { treset := .asserted, released := none, windowTimer := none }
    sup :=
      { mode := .init, cause := .restart, breakFlag := false, restartPending := false, slot := none, runTag := none,
        initTimer := true, settled := true, abortPending := false, verbRun := none }
    con := unmarkRestart p.con
    tgt := { closedTarget with rate := p.tgt.rate } }

/-! ### The end of INIT (R139, R140) -/

/-- The kind that AUTOCHECK asks for (R88). -/
def AutoCheck.kind : AutoCheck → CheckKind
  | .walk => .walk
  | _ => .quick

/-- The choice of the mode after notice 800 (R140). -/
def chooseMode (p : Part) : Part :=
  let s := p.sst.settings
  if p.sup.breakFlag ∨ s.autostart = false then goIdle p
  else if s.autocheck ≠ .nothing ∧ checkRegions s.map ≠ [] then
    let p := { p with sup := { p.sup with mode := .auto .check, slot := some .automaticCheck } }
    beginCheck .auto none s.autocheck.kind (checkRegions s.map) 1 false [.word "AUTO", .num 1] p
  else beginRun .start none p

/-- INIT ends: notice 800, then the choice of the mode (R139). -/
def endInit (p : Part) : Part :=
  chooseMode (raise 800 none [.word p.sup.cause.name, .word p.sst.source.name] p)

/-! ### The end of a check run (R93, R94) -/

/-- A check run has ended: its state is absent; a VERB run leaves MANUAL IDLE, an AUTO run is followed by the search, or by
HALTED when a region is marked and CHECKFAIL is HALT (R94). -/
def endCheck (p : Part) : Part :=
  match p.mck.run with
  | none => p
  | some r =>
    let p := { p with mck := { p.mck with run := none } }
    match r.origin with
    | .verb => goIdle p
    | .auto =>
      if r.marks ≠ [] ∧ p.sst.settings.checkfail = .halt then enterHalted .check p else beginRun .start none p

/-- A check run that has come to its last pass's end: notice 502, then its end (R94). -/
def completeCheck (p : Part) : Part :=
  match p.mck.run with
  | none => p
  | some r => endCheck (raise 502 r.tag [.num r.pass, .num (defectTotal p.mck)] p)

/-- What follows a word of the check run. -/
def followCheck (x : Part × CheckCourse) : Part :=
  match x.2 with
  | .goesOn => x.1
  | .stopped => endCheck x.1
  | .complete => completeCheck x.1

/-! ### Results (R6, R76) -/

/-- The end of a load goes to its requester (R109, R110). -/
def deliverLoadEnd (r : LoadRequester) (tag : Option Tag) (e : LoadEnd) (p : Part) : Part :=
  match r with
  | .search => searchLoadEnd e p
  | .boot => startLoadEnd true tag e p
  | .stage => startLoadEnd false tag e p

/-- A step of a load, followed by the end it may have reached. -/
def followLoad (plan : LoadPlan) (x : Part × Option LoadEnd) : Part :=
  follow x fun e p => deliverLoadEnd plan.requester plan.tag e p

/-- A READ result delivered to the loader (R105). -/
def loaderResult (r : OpResult) (p : Part) : Part :=
  match r, p.ldr.plan with
  | .read x, some plan =>
    match plan.cursor with
    | none => p
    | some c =>
      match segmentAt c.segment plan.image with
      | none => p
      | some s => followLoad plan (loaderRead x plan c s p)
  | _, _ => p

/-- A port operation's one result goes to its requester (R6). -/
def deliver (d : Requester × OpResult) (p : Part) : Part :=
  match d.1 with
  | .search => searchResult d.2 p
  | .loader => loaderResult d.2 p
  | .manualStart | .probeVerb | .volumeVerb => verbResult d.2 p

/-- The end of an exchange, with the delivery of a result that ends its operation. -/
def exchangeEnded (port : Port) (e : PortEntry) (f : InFlight) (r : ExchangeResult) (p : Part) : Part :=
  follow (finishExchange port e f r p) deliver

/-! ### Break and ABORT (R145 to R149) -/

/-- What follows the owner's abort rule: the target held, the slot empty, MANUAL IDLE, and in mode AUTO notice 801 with the run
tag and the phase (R146 steps 2 to 4, R147). -/
def endAbort (p : Part) : Part :=
  let idle := goIdle { p with rlu := { p.rlu with treset := .asserted } }
  match p.sup.mode with
  | .auto phase => raise 801 p.sup.runTag [.word phase.name] idle
  | _ => idle

/-- The owner's abort rule, with no memory transaction in flight: MCK (R95), SRE and LDR (R64, R111), or the verb that holds the
slot (R21, R37, R81, R111, R114). -/
def abortOwner (p : Part) : Part :=
  match p.mck.run, p.sre.run, p.sup.verbRun with
  | some r, _, _ => endAbortedCheck r p
  | none, some _, _ => abortRun p
  | none, none, some (.probe tag port unit) =>
    replyRecord (accepted 0 tag [.num port.num, .num unit, .word "ABORTED"]) (withdraw p)
  | none, none, some (.volume tag port unit _) =>
    replyRecord (multiLine tag [[.num port.num, .num unit, .word "ABORTED"]]) (withdraw p)
  | none, none, some (.peek tag _ _ words) =>
    replyRecord (multiLine tag (words.map peekLine ++ [[.word "ABORTED"]])) p
  | none, none, some (.start _ _ _ _ _ .loading) =>
    match p.ldr.plan with
    | some plan => abortLoad plan (withdraw p)
    | none => p
  | none, none, some (.start _ tag port unit _ _) => abortStart tag port unit p
  | none, none, some (.poke _) => p
  | none, none, none => p

/-- The abort of the operation that holds the slot. A memory transaction in flight runs to its end first (R77; DEDUCED,
notes/assumptions/10.md). -/
def abortOperation (p : Part) : Part :=
  match p.mmp.txn with
  | some _ => { p with sup := { p.sup with abortPending := true } }
  | none => endAbort (abortOwner p)

/-- SUP takes a break by mode (R145). -/
def takeBreak (p : Part) : Part :=
  if p.sup.restartPending then p
  else
    match p.sup.mode with
    | .init => { p with sup := { p.sup with breakFlag := true } }
    | .auto _ => abortOperation p
    | .manual (some _) => abortOperation p
    | _ => p

/-! ### Outcomes of memory transactions (R76, R77) -/

/-- The outcome handed to the checker. -/
def checkerOutcome (o : TxnOutcome) (p : Part) : Part :=
  match p.mck.run with
  | none => p
  | some r =>
    if p.sup.abortPending then endAbort (abortOwner (checkAbortOutcome o r p))
    else followCheck (checkOutcome o r p)

/-- The outcome handed to the loader. -/
def loadOutcome (o : TxnOutcome) (a : Nat) (p : Part) : Part :=
  if p.sup.abortPending then endAbort (abortOwner (loaderAbortOutcome o a p))
  else
    match p.ldr.plan with
    | none => p
    | some plan =>
      match plan.cursor with
      | none => p
      | some c => followLoad plan (loaderOutcome o plan c p)

/-- The outcome handed to a PEEK (R78, R81). -/
def peekOutcome (o : TxnOutcome) (p : Part) : Part :=
  match p.sup.verbRun with
  | some (.peek tag a left words) =>
    let words := words ++ [(a, peekWordOf o)]
    if p.sup.abortPending then endAbort (abortOwner (setVerbRun (.peek tag a left words) p))
    else peekFrom tag (a + 4) words (left - 1) p
  | _ => p

/-- The outcome handed to a POKE; an abort adds nothing to its reply (R80, R81). -/
def pokeOutcome (o : TxnOutcome) (p : Part) : Part :=
  match p.sup.verbRun with
  | some (.poke tag) => endPoke tag o p
  | _ => p

/-- A transaction ends: the port is IDLE and the outcome goes to the requester (R76). -/
def txnEnded (t : Transaction) (o : TxnOutcome) (p : Part) : Part :=
  let p := endTxn p
  match t.requester with
  | .checker => checkerOutcome o p
  | .loader => loadOutcome o t.address p
  | .peek => peekOutcome o p
  | .poke => pokeOutcome o p

/-! ### The end of a confirmation window (R125) -/

/-- A window ends by failure: the hold, the record, the spent list, notice 712, then a fallback run for an automatic release, or
MANUAL IDLE for a manual one (R62, R125). -/
def failWindow (o : AttemptOutcome) (p : Part) : Part :=
  match p.rlu.released with
  | none => p
  | some r =>
    let p := appendRecord r.tag r.fields o none (some r.key.imageId) (holdTarget p)
    let p := raise 712 r.tag (r.key.fields ++ [.word o.name]) (addSpent r.key p)
    let p := dropReleased p
    match r.kind with
    | .automatic => beginRun .fallback r.tag p
    | .manual => goIdle p

/-! ### STAT (R151) -/

/-- The STAT reply (R151). -/
def statRecord (tag : Option Tag) (p : Part) : Record :=
  let entry := (p.sre.run.map SearchRun.entry).getD 0
  let unit := if entry = 0 then 0 else (p.sre.run.map SearchRun.unit).getD 0
  accepted 0 tag
    [.word "MODE", .word p.sup.mode.name, .word "PHASE", .word p.sup.mode.phaseName, .word "CAUSE", .word p.sup.cause.name,
      .word "ROUND", .num ((p.sre.run.map SearchRun.round).getD p.sre.lastRound), .word "ENTRY", .num entry,
      .word "UNIT", .num unit, .word "IMAGE", .word p.ldr.image.name, .word "COUNT", .num p.sre.releaseCount,
      .word "BUDGET", .num p.sst.settings.budget, .word "QUESTION", .num ((p.sre.question.map Question.id).getD 0),
      .word "LOST", .num p.con.lost, .word "SOURCE", .word p.sst.source.name,
      .word "SAVING", .word (yesNo p.sst.saving.isSome), .word "SPENT", .num p.sre.spent.length,
      .word "LOG", .num p.sre.log.length, .word "DEFECTS", .num (defectTotal p.mck)]

end Sys2Proof.Machine
end

