-- ==== Sys2Proof/Machine/Verbs.lean ====
section
/-! DEFINITION. The verbs: what the owner of each console request does with it once SUP has admitted it by mode, and what RLU
does with each request of the target line. -/

namespace Sys2Proof.Machine

/-! ### Operand forms -/

/-- The slot is held (R137). -/
def slotHeld (p : Part) : Bool := p.sup.slot.isSome

/-- A port number and a unit number in range: 0 to 3 and 0 to 7 (R21, R35, R113). -/
def portUnit? (x u : Nat) : Option (Port × Nat) :=
  match Port.ofNat? x with
  | none => none
  | some port => if u ≤ 7 then some (port, u) else none

/-- A verb that lists state and takes no argument: its multi-line reply, or 111 (R20, R42, R58, R60, R71, R97). -/
def listVerb (lines : Part → List (List Field)) (tag : Option Tag) (args : List Arg) (p : Part) : Part :=
  match args with
  | [] => replyRecord (multiLine tag (lines p)) p
  | _ => refuse 111 tag p

/-! ### SUP: ABORT, RESTART, STAT -/

/-- ABORT: "+000", then the abort of the operation as by a break (R148). -/
def abortVerb (tag : Option Tag) (args : List Arg) (p : Part) : Part :=
  match args with
  | [] => abortOperation (replyOk tag p)
  | _ => refuse 111 tag p

/-- RESTART: the restart is pending until the reply has left the console (R152). -/
def restartVerb (tag : Option Tag) (args : List Arg) (p : Part) : Part :=
  match args with
  | [] =>
    reply { record := some (accepted 0 tag []), restart := true }
      { p with sup := { p.sup with restartPending := true } }
  | _ => refuse 111 tag p

/-- STAT, on the line that asked (R126, R151). -/
def statVerb (l : Line) (tag : Option Tag) (args : List Arg) (p : Part) : Part :=
  match args with
  | [] => replyOn l (statRecord tag p) p
  | _ => replyOn l (refusal 111 tag) p

/-! ### SPC and VCL: PORTS, PROBE, VOLUME -/

/-- PORTS (R20). -/
def portsVerb : Option Tag → List Arg → Part → Part := listVerb portsLines

/-- PROBE p u (R21). -/
def probeVerb (tag : Option Tag) (args : List Arg) (p : Part) : Part :=
  match args with
  | [.num x, .num u] =>
    match portUnit? x u with
    | none => refuse 112 tag p
    | some (port, unit) =>
      if slotHeld p then refuse 121 tag p
      else beginProbe tag port unit (takeSlot .probe tag (some (.probe tag port unit)) p)
  | _ => refuse 111 tag p

/-- VOLUME p u (R35). -/
def volumeVerb (tag : Option Tag) (args : List Arg) (p : Part) : Part :=
  match args with
  | [.num x, .num u] =>
    match portUnit? x u with
    | none => refuse 112 tag p
    | some (port, unit) =>
      if slotHeld p then refuse 121 tag p
      else beginVolume tag port unit (takeSlot .volume tag (some (.volume tag port unit none)) p)
  | _ => refuse 111 tag p

/-! ### SRE: ANSWER, LOG, SPENT, SEEK, ORDER -/

/-- The words of an ANSWER (R53). -/
def answerWords : List (String × Bool) := [("YES", true), ("NO", false)]

/-- ANSWER q YES or ANSWER q NO (R53). -/
def answerVerb (tag : Option Tag) (args : List Arg) (p : Part) : Part :=
  match args with
  | [.num q, .word w] =>
    match findWord answerWords w with
    | none => refuse 111 tag p
    | some yes =>
      if q < 1 ∨ 0xFF < q then refuse 112 tag p
      else if p.sre.question.map Question.id ≠ some q then refuse 413 tag p
      else
        let p := replyRecord (accepted 412 tag [.num q, .word (yesNo yes)]) p
        if yes then questionYes p else questionOutcome .unknownDeclined p
  | _ => refuse 111 tag p

/-- LOG (R58). -/
def logVerb : Option Tag → List Arg → Part → Part := listVerb fun p => p.sre.log.map AttemptRecord.textFields

/-- SPENT (R60). -/
def spentVerb : Option Tag → List Arg → Part → Part := listVerb fun p => p.sre.spent.map CandidateKey.fields

/-- SEEK CLEAR empties the spent list and sets the release count to 0 (R60, R61, R63). -/
def clearSpent (p : Part) : Part := setSre (fun s => { s with spent := [], releaseCount := 0 }) p

/-- A SEEK that is taken (R63, R142). -/
def seekTaken (clear : Bool) (tag : Option Tag) (p : Part) : Part :=
  let p := { p with sup := { p.sup with mode := .auto .search, slot := some .searchRun, verbRun := none } }
  beginRun .seek tag (replyOk tag (if clear then clearSpent p else p))

/-- SEEK [CLEAR] (R63). -/
def seekVerb (tag : Option Tag) (args : List Arg) (p : Part) : Part :=
  match args with
  | [] => if slotHeld p then refuse 121 tag p else seekTaken false tag p
  | [.word w] =>
    if w ≠ "CLEAR".toList then refuse 111 tag p
    else if slotHeld p then refuse 121 tag p
    else seekTaken true tag p
  | _ => refuse 111 tag p

/-- Puts a boot order list in force. -/
def setOrder (l : List BootEntry) (p : Part) : Part :=
  { p with sst := { p.sst with settings := { p.sst.settings with order := l } } }

def policyWords : List (String × Policy) := [("SKIP", .skip), ("ASK", .ask), ("TAKE", .take)]

/-- ORDER PUT i p f l t policy resort (R39). -/
def orderPutVerb (tag : Option Tag) (args : List Arg) (p : Part) : Part :=
  match args with
  | [.num i, .num x, .num f, .num l, .num t, .word policy, .word resort] =>
    match findWord policyWords policy, findWord answerWords resort with
    | some policy, some resort =>
      match Port.ofNat? x with
      | none => refuse 112 tag p
      | some port =>
        if i < 1 ∨ 13 < i ∨ 7 < f ∨ 7 < l ∨ t < 1 ∨ 15 < t ∨ l < f then refuse 112 tag p
        else
          let order := p.sst.settings.order
          let e : BootEntry := ⟨port, f, l, t, policy, resort⟩
          if order.length + 1 < i then refuse 122 tag p
          else if i ≤ order.length then replyOk tag (setOrder (order.set (i - 1) e) p)
          else if Config.orderCapacity ≤ order.length then refuse 123 tag p
          else replyOk tag (setOrder (order ++ [e]) p)
    | _, _ => refuse 111 tag p
  | _ => refuse 111 tag p

/-- ORDER DEL i (R40). -/
def orderDelVerb (tag : Option Tag) (args : List Arg) (p : Part) : Part :=
  match args with
  | [.num i] =>
    if i < 1 ∨ Config.orderCapacity < i then refuse 112 tag p
    else if p.sst.settings.order.length < i then refuse 122 tag p
    else replyOk tag (setOrder (p.sst.settings.order.eraseIdx (i - 1)) p)
  | _ => refuse 111 tag p

/-- ORDER MOVE i j (R41). -/
def orderMoveVerb (tag : Option Tag) (args : List Arg) (p : Part) : Part :=
  match args with
  | [.num i, .num j] =>
    if i < 1 ∨ Config.orderCapacity < i ∨ j < 1 ∨ Config.orderCapacity < j then refuse 112 tag p
    else if p.sst.settings.order.length < i ∨ p.sst.settings.order.length < j then refuse 122 tag p
    else replyOk tag (setOrder (moveEntry p.sst.settings.order i j) p)
  | _ => refuse 111 tag p

/-- ORDER LIST (R42). -/
def orderListVerb : Option Tag → List Arg → Part → Part := listVerb fun p => orderLines 1 p.sst.settings.order

/-! ### MMP: MAP, PEEK, POKE -/

/-- The attribute keywords of MAP PUT, gathered over the rest of its arguments; none for a number, another keyword or a
keyword given twice (R68 step 1). -/
def mapAttributes (r : Region) : List Arg → Option Region
  | [] => some r
  | .word w :: rest =>
    if w = "LOAD".toList ∧ r.load = false then mapAttributes { r with load := true } rest
    else if w = "CHECK".toList ∧ r.check = false then mapAttributes { r with check := true } rest
    else if w = "PRESERVE".toList ∧ r.preserve = false then mapAttributes { r with preserve := true } rest
    else none
  | .num _ :: _ => none

/-- MAP PUT i base size [attributes] (R68, R69). -/
def mapPutVerb (tag : Option Tag) (args : List Arg) (p : Part) : Part :=
  match args with
  | .num i :: .num base :: .num size :: attributes =>
    match mapAttributes ⟨base, size, false, false, false⟩ attributes with
    | none => refuse 111 tag p
    | some r =>
      match Idx.ofNat? i with
      | none => refuse 112 tag p
      | some idx =>
        if base % Config.pageBytes ≠ 0 ∨ size = 0 ∨ size % Config.pageBytes ≠ 0 ∨ Config.addressEnd < base + size then
          refuse 112 tag p
        else if r.load ∧ r.preserve then refuse 607 tag p
        else if overlapsOther p.sst.settings.map idx r then refuse 606 tag p
        else if slotHeld p then refuse 121 tag p
        else editMap idx (some r) (replyOk tag p)
  | _ => refuse 111 tag p

/-- MAP DEL i (R70). -/
def mapDelVerb (tag : Option Tag) (args : List Arg) (p : Part) : Part :=
  match args with
  | [.num i] =>
    match Idx.ofNat? i with
    | none => refuse 112 tag p
    | some idx =>
      if (p.sst.settings.map.get idx).isNone then refuse 122 tag p
      else if slotHeld p then refuse 121 tag p
      else replyOk tag (editMap idx none p)
  | _ => refuse 111 tag p

/-- MAP LIST (R71). -/
def mapListVerb : Option Tag → List Arg → Part → Part := listVerb mapLines

/-- Some of `n` words from an address on is held by no region (R78 step 6). -/
def someOutside (map : Eight (Option Region)) (a n : Nat) : Bool :=
  (List.range n).any fun k => (regionAt map (a + 4 * k)).isNone

/-- A PEEK of n words, with its form judged (R78 steps 2 to 6). -/
def peekWords (tag : Option Tag) (a n : Nat) (p : Part) : Part :=
  if n < 1 ∨ 16 < n then refuse 112 tag p
  else if slotHeld p then refuse 121 tag p
  else if p.rlu.treset = .freed then refuse 605 tag p
  else if a % 4 ≠ 0 then refuse 112 tag p
  else if someOutside p.sst.settings.map a n then refuse 601 tag p
  else peekFrom tag a [] n (takeSlot .peek tag (some (.peek tag a n [])) p)

/-- PEEK a [n] (R78). -/
def peekVerb (tag : Option Tag) (args : List Arg) (p : Part) : Part :=
  match args with
  | [.num a] => peekWords tag a 1 p
  | [.num a, .num n] => peekWords tag a n p
  | _ => refuse 111 tag p

/-- POKE a v (R80). -/
def pokeVerb (tag : Option Tag) (args : List Arg) (p : Part) : Part :=
  match args with
  | [.num a, .num v] =>
    if slotHeld p then refuse 121 tag p
    else beginPoke tag a v (takeSlot .poke tag (some (.poke tag)) p)
  | _ => refuse 111 tag p

/-! ### MCK: CHECK, DEFECTS -/

def checkKindWords : List (String × CheckKind) := [("QUICK", .quick), ("WALK", .walk), ("READ", .read)]

/-- The region place of a CHECK: an index by number, none for ALL (R86). -/
inductive CheckScope where
  | index (n : Nat)
  | all
  deriving DecidableEq, Repr

/-- The arguments of a CHECK: kind, scope, passes and STOP (R86). -/
structure CheckArgs where
  kind : CheckKind
  scope : CheckScope
  passes : Nat
  stop : Bool
  deriving DecidableEq, Repr

/-- The region place of a CHECK (R86). -/
def checkScope? : Arg → Option CheckScope
  | .num n => some (.index n)
  | .word w => if w = "ALL".toList then some .all else none

/-- The fixed places of CHECK kind [r] [passes] [STOP]; none is a form refused with 111 (R86 step 1; the fixed
places are DEDUCED, notes/assumptions/13.md). -/
def checkArgs? : List Arg → Option CheckArgs
  | [.word k] => (findWord checkKindWords k).map fun k => ⟨k, .all, 1, false⟩
  | [.word k, r] =>
    match findWord checkKindWords k, checkScope? r with
    | some k, some s => some ⟨k, s, 1, false⟩
    | _, _ => none
  | [.word k, r, .num n] =>
    match findWord checkKindWords k, checkScope? r with
    | some k, some s => some ⟨k, s, n, false⟩
    | _, _ => none
  | [.word k, r, .num n, .word w] =>
    match findWord checkKindWords k, checkScope? r with
    | some k, some s => if w = "STOP".toList then some ⟨k, s, n, true⟩ else none
    | _, _ => none
  | _ => none

/-- The region list of a scope: none is an index out of range, an empty list names no region (R86 steps 2 and 3, R87). -/
def checkList (map : Eight (Option Region)) : CheckScope → Option (List Idx)
  | .all => some (occupied map)
  | .index n => (Idx.ofNat? n).map fun i => if (map.get i).isSome then [i] else []

/-- The scope field of notice 500 (R87). -/
def CheckScope.field : CheckScope → Field
  | .all => .word "ALL"
  | .index n => .num n

/-- CHECK kind [r] [passes] [STOP] (R86, R87). -/
def checkVerb (tag : Option Tag) (args : List Arg) (p : Part) : Part :=
  match checkArgs? args with
  | none => refuse 111 tag p
  | some c =>
    match checkList p.sst.settings.map c.scope with
    | none => refuse 112 tag p
    | some regions =>
      if 0xFF < c.passes then refuse 112 tag p
      else if regions = [] then refuse 122 tag p
      else if slotHeld p then refuse 121 tag p
      else
        beginCheck .verb tag c.kind regions c.passes c.stop [c.scope.field, .num c.passes]
          (replyOk tag (takeSlot .check tag none p))

/-- DEFECTS (R97). -/
def defectsVerb : Option Tag → List Arg → Part → Part := listVerb fun p => defectLines p.mck

/-! ### LDR and RLU: STAGE, BOOT, GO, HOLD -/

/-- An accepted STAGE or BOOT (R113, R131, R142). -/
def startTaken (boot : Bool) (tag : Option Tag) (port : Port) (unit : Nat) (raw : Bool) (p : Part) : Part :=
  let p := takeSlot (if boot then .boot else .stage) tag (some (.start boot tag port unit raw .probing)) p
  beginStart boot tag port unit raw (replyOk tag p)

/-- STAGE p u [RAW] and BOOT p u [RAW], judged alike (R113, R131). -/
def startVerb (boot : Bool) (tag : Option Tag) (args : List Arg) (p : Part) : Part :=
  let judged (x u : Nat) (raw : Bool) : Part :=
    match portUnit? x u with
    | none => refuse 112 tag p
    | some (port, unit) => if slotHeld p then refuse 121 tag p else startTaken boot tag port unit raw p
  match args with
  | [.num x, .num u] => judged x u false
  | [.num x, .num u, .word w] => if w = "RAW".toList then judged x u true else refuse 111 tag p
  | _ => refuse 111 tag p

/-- The key of the image that a load plan staged (R130). -/
def planKey (plan : LoadPlan) : CandidateKey := ⟨plan.fields.port, plan.fields.unit, plan.image.imageId⟩

/-- GO (R130). -/
def goVerb (tag : Option Tag) (args : List Arg) (p : Part) : Part :=
  match args with
  | [] =>
    match p.sup.mode, p.ldr.image, p.ldr.plan with
    | .manual _, .staged, some plan =>
      if slotHeld p then refuse 121 tag p
      else if planKey plan ∈ p.sre.spent then refuse 305 tag p
      else release .manual tag (replyOk tag (takeSlot .go tag none p))
    | _, _, _ => refuse 120 tag p
  | _ => refuse 111 tag p

/-- A HOLD of the released candidate, with its reply (R128). -/
def holdTaken (tag : Option Tag) (r : Released) (p : Part) : Part :=
  let p := holdTarget p
  let p := match r.phase with
    | .confirmWait => appendRecord r.tag r.fields .aborted none (some r.key.imageId) p
    | .running => p
  goIdle (dropReleased (replyRecord (accepted 730 tag r.key.fields) p))

/-- HOLD (R128). -/
def holdVerb (tag : Option Tag) (args : List Arg) (p : Part) : Part :=
  match args, p.rlu.released with
  | [], some r => holdTaken tag r p
  | [], none => refuse 120 tag p
  | _, _ => refuse 111 tag p

/-! ### SST: GET, SET, SAVE, DEFAULTS -/

/-- GET name (R159). -/
def getVerb (tag : Option Tag) (args : List Arg) (p : Part) : Part :=
  match args with
  | [.word w] =>
    match findWord settingNames w with
    | none => refuse 111 tag p
    | some n => replyRecord (accepted 0 tag [.word n.name, settingField p.sst.settings n]) p
  | _ => refuse 111 tag p

/-- Puts working settings in force. -/
def setSettings (s : Settings) (p : Part) : Part := { p with sst := { p.sst with settings := s } }

/-- A reply that a console rate switch may wait for (R157, R183). -/
def replyRate (record : Record) (p : Part) : Part :=
  let r := requestRate p.sst.settings.conrate p.con
  reply { record := some record, rateSwitch := r.1 } { p with con := r.2 }

/-- A SET that passes: the value, then for a port kind the entry reset and for CONRATE the rate switch (R156 to R158). -/
def setTaken (n : SettingName) (s : Settings) (tag : Option Tag) (p : Part) : Part :=
  let p := setSettings s p
  match n with
  | .portKind port => replyOk tag (resetEntry port (s.kinds.get port) p)
  | .conrate => replyRate (accepted 0 tag []) p
  | _ => replyOk tag p

/-- SET of a port kind (R156 step 3). -/
def SettingName.isPortKind : SettingName → Bool
  | .portKind _ => true
  | _ => false

/-- SET name value (R156). -/
def setVerb (tag : Option Tag) (args : List Arg) (p : Part) : Part :=
  match args with
  | [.word w, v] =>
    match findWord settingNames w with
    | none => refuse 111 tag p
    | some n =>
      match judgeSetting p.sst.settings n v with
      | .inl code => refuse code tag p
      | .inr s => if n.isPortKind ∧ slotHeld p then refuse 121 tag p else setTaken n s tag p
  | _ => refuse 111 tag p

/-- SAVE (R162, R167). -/
def saveVerb (tag : Option Tag) (args : List Arg) (p : Part) : Part :=
  match args with
  | [] =>
    if p.sst.saving.isSome then refuse 902 tag p
    else if 0xFFFFFFFF ≤ newestGeneration p.sst then refuse 905 tag p
    else replyOk tag (beginSave tag p)
  | _ => refuse 111 tag p

/-- A DEFAULTS that passes; one that changes CONRATE or finds a switch pending sets it anew (R165, R183). -/
def defaultsTaken (tag : Option Tag) (p : Part) : Part :=
  replyRate (accepted 903 tag []) (loadDefaults p)

/-- DEFAULTS (R165). -/
def defaultsVerb (tag : Option Tag) (args : List Arg) (p : Part) : Part :=
  match args with
  | [] =>
    if p.sst.saving.isSome then refuse 902 tag p
    else if slotHeld p ∧ (changedKinds p.sst.settings ≠ [] ∨ changedRegions p.sst.settings ≠ []) then refuse 121 tag p
    else defaultsTaken tag p
  | _ => refuse 111 tag p

/-! ### Admission (R141) -/

/-- A verb admitted by the mode (R141). ORDER and MAP with another second word are admitted as their LIST is; GO is judged in
its own order (R130). -/
def admits (v : Verb) : Mode → Bool
  | .init => false
  | .auto _ =>
    match v with
    | .stat | .log | .spent | .defects | .get | .mapList | .mapOther | .restart | .ports | .orderList | .orderOther
    | .answer | .abort => true
    | _ => false
  | .manual busy =>
    match v with
    | .abort => busy.isSome
    | .answer | .hold | .alive | .revert | .hand | .reboot => false
    | _ => true
  | .targetRun _ =>
    match v with
    | .stat | .log | .spent | .defects | .get | .mapList | .mapOther | .restart | .ports | .orderList | .orderOther
    | .hold => true
    | _ => false
  | .halted _ =>
    match v with
    | .stat | .log | .spent | .defects | .get | .mapList | .mapOther | .restart => true
    | _ => false

/-- The owner of an admitted console request (R141, R176). -/
def ownerOf (v : Verb) : Option Tag → List Arg → Part → Part :=
  match v with
  | .abort => abortVerb
  | .answer => answerVerb
  | .boot => startVerb true
  | .check => checkVerb
  | .defaults => defaultsVerb
  | .defects => defectsVerb
  | .get => getVerb
  | .go => goVerb
  | .hold => holdVerb
  | .log => logVerb
  | .mapPut => mapPutVerb
  | .mapDel => mapDelVerb
  | .mapList => mapListVerb
  | .mapOther => fun tag _ => refuse 111 tag
  | .orderPut => orderPutVerb
  | .orderDel => orderDelVerb
  | .orderMove => orderMoveVerb
  | .orderList => orderListVerb
  | .orderOther => fun tag _ => refuse 111 tag
  | .peek => peekVerb
  | .poke => pokeVerb
  | .ports => portsVerb
  | .probe => probeVerb
  | .restart => restartVerb
  | .save => saveVerb
  | .seek => seekVerb
  | .set => setVerb
  | .spent => spentVerb
  | .stage => startVerb false
  | .stat => statVerb .console
  | .volume => volumeVerb
  | .alive | .revert | .hand | .reboot => fun tag _ => refuse 110 tag

/-- SUP takes a console request: 120 during INIT and while a restart is pending, then the mode's admission, then the owner's
judgement; GO goes straight to its own (R130, R139, R141, R152). -/
def takeConsole (r : Request) (p : Part) : Part :=
  if p.sup.mode = .init ∨ p.sup.restartPending then refuse 120 r.tag p
  else if r.verb = .go ∨ admits r.verb p.sup.mode then ownerOf r.verb r.tag r.args p
  else refuse 120 r.tag p

/-! ### RLU: the target's requests (R121, R123, R126, R127) -/

/-- A reply of RLU on the target line. -/
def targetReply (r : Record) (p : Part) : Part := handTarget { record := r } p

/-- The window timer stops. -/
def stopWindow (p : Part) : Part := { p with rlu := { p.rlu with windowTimer := none } }

/-- The released candidate is confirmed: timer stopped, "+711", the CONFIRMED record, RUNNING, notice 711 (R121). -/
def confirm (tag : Option Tag) (r : Released) (p : Part) : Part :=
  let p := targetReply (accepted 711 tag [.num r.key.imageId.toNat]) (stopWindow p)
  let p := appendRecord r.tag r.fields .confirmed none (some r.key.imageId) p
  let p := { p with
    rlu := { p.rlu with released := some { r with phase := .running } }
    sup := { p.sup with mode := .targetRun .running } }
  raise 711 r.tag r.key.fields p

/-- ALIVE i (R121, R126); in RUNNING it is refused before its argument is looked at (DEDUCED, notes/assumptions/14.md). -/
def aliveVerb (tag : Option Tag) (args : List Arg) (r : Released) (p : Part) : Part :=
  match r.phase with
  | .running => targetReply (refusal 120 tag) p
  | .confirmWait =>
    match args with
    | [.num i] => if i = r.key.imageId.toNat then confirm tag r p else targetReply (refusal 721 tag) p
    | _ => targetReply (refusal 111 tag) p

/-- RLU takes no further request until the line opens again (R123, R127, R174). -/
def stopAccepting (p : Part) : Part := { p with tgt := { p.tgt with accepting := false } }

/-- REVERT, its first step: timer stopped, "+712", no further request taken (R123). -/
def revertVerb (tag : Option Tag) (args : List Arg) (r : Released) (p : Part) : Part :=
  match r.phase with
  | .running => targetReply (refusal 120 tag) p
  | .confirmWait =>
    match args with
    | [] => handTarget { record := accepted 712 tag [], after := .revert } (stopAccepting (stopWindow p))
    | _ => targetReply (refusal 111 tag) p

/-- HAND (R127). -/
def handVerb (tag : Option Tag) (args : List Arg) (p : Part) : Part :=
  match args with
  | [] =>
    match p.ldr.handoff with
    | some h => targetReply (accepted 0 tag (handFields h)) p
    | none => targetReply (refusal 122 tag) p
  | _ => targetReply (refusal 111 tag) p

/-- REBOOT: "+803", the timer stopped, no further request taken; the RESTART follows the reply (R127, R174). -/
def rebootVerb (tag : Option Tag) (args : List Arg) (p : Part) : Part :=
  match args with
  | [] => handTarget { record := accepted 803 tag [], after := .reboot } (stopAccepting (stopWindow p))
  | _ => targetReply (refusal 111 tag) p

/-- RLU takes a request of the target line by its phase (R126). -/
def takeTarget (r : Request) (p : Part) : Part :=
  match p.rlu.released with
  | none => targetReply (refusal 120 r.tag) p
  | some rel =>
    match r.verb with
    | .alive => aliveVerb r.tag r.args rel p
    | .revert => revertVerb r.tag r.args rel p
    | .hand => handVerb r.tag r.args p
    | .reboot => rebootVerb r.tag r.args p
    | .stat => statVerb .target r.tag r.args p
    | _ => targetReply (refusal 110 r.tag) p

end Sys2Proof.Machine
end

