-- ==== Sys2Proof/Machine/Lines.lean ====
section
/-! DEFINITION. The record line unit's receivers and queues (Record Lines: Console and Target): line building, the line
queues, taking lines, breaks, and the end of a record on each transmitter. -/

namespace Sys2Proof.Machine

/-! ### Taking a line (R173, R174, R178) -/

/-- What RLN does with the words of a console line: its own refusal, or the request for SUP (R173). -/
def followConsole (x : Parsed) (p : Part) : Part :=
  match x with
  | .refused code tag => refuse code tag p
  | .request r => takeConsole r p

/-- What RLN does with the words of a target line: its own refusal, or the request for RLU (R174). -/
def followTarget (x : Parsed) (p : Part) : Part :=
  match x with
  | .refused code tag => targetReply (refusal code tag) p
  | .request r => takeTarget r p

/-- A console line that RLN has taken, by its kind (R173). -/
def takeConsoleLine (q : QueuedLine) (p : Part) : Part :=
  match q with
  | .bad => refuse 102 none p
  | .tooLong => refuse 101 none p
  | .text t => followConsole (parseLine .console t) p

/-- A target line that RLN has taken, by its kind (R174). -/
def takeTargetLine (q : QueuedLine) (p : Part) : Part :=
  match q with
  | .bad => targetReply (refusal 102 none) p
  | .tooLong => targetReply (refusal 101 none) p
  | .text t => followTarget (parseLine .target t) p

/-- Takes console lines, oldest first, while the reply queue is empty; at most `n` of them (R173). -/
def takeConsoleLines : Nat → Part → Part
  | 0, p => p
  | n + 1, p =>
    match p.con.lines, p.con.replies with
    | q :: rest, [] => takeConsoleLines n (takeConsoleLine q { p with con := { p.con with lines := rest } })
    | _, _ => p

/-- Takes every console line that the take rule lets go (R173). -/
def pumpConsole (p : Part) : Part := takeConsoleLines p.con.lines.length p

/-- RLN may take a target line: the line is open, RLU accepts, and no reply waits; a START record may wait (R174). -/
def targetTakes (t : Target) : Bool := t.isOpen && t.accepting && t.queue.all fun i => i.record.form = .notice

/-- Takes target lines, oldest first, while the take rule lets them go; at most `n` of them (R174). -/
def takeTargetLines : Nat → Part → Part
  | 0, p => p
  | n + 1, p =>
    match p.tgt.lines with
    | [] => p
    | q :: rest =>
      if targetTakes p.tgt then takeTargetLines n (takeTargetLine q { p with tgt := { p.tgt with lines := rest } })
      else p

/-- Takes every target line that the take rule lets go (R174). -/
def pumpTarget (p : Part) : Part := takeTargetLines p.tgt.lines.length p

/-! ### Line queues (R172) -/

/-- A complete console line is offered: it joins the queue, or is discarded with notice 105; then lines are taken (R172,
R173). -/
def offerConsole (q : QueuedLine) (p : Part) : Part :=
  if p.con.lines.length < Config.lineCapacity then
    pumpConsole { p with con := { p.con with lines := p.con.lines ++ [q] } }
  else raise 105 none [] p

/-- A complete target line is offered: it joins the queue, or is discarded with notice 106; then lines are taken (R172,
R174). -/
def offerTarget (q : QueuedLine) (p : Part) : Part :=
  if p.tgt.lines.length < Config.lineCapacity then
    pumpTarget { p with tgt := { p.tgt with lines := p.tgt.lines ++ [q] } }
  else raise 106 none [] p

/-- A complete line arrives as a command on the console: taken at once when nothing waits ahead of it, otherwise offered to
the line queue in the given form (R172, R173; notes/assumptions/5.md). -/
def arriveConsole (take : Part → Part) (q : QueuedLine) (p : Part) : Part :=
  if p.con.lines = [] ∧ p.con.replies = [] then take p else offerConsole q p

/-- A complete line arrives as a command on the target line; it is lost while the line is closed (R169, R172, R174). -/
def arriveTarget (take : Part → Part) (q : QueuedLine) (p : Part) : Part :=
  if p.tgt.isOpen = false then p
  else if p.tgt.lines = [] ∧ targetTakes p.tgt then take p
  else offerTarget q p

/-- A line of words arrives on a line (R176, R178). -/
def arriveWords (l : Line) (ws : List Text) (p : Part) : Part :=
  match l with
  | .console => arriveConsole (followConsole (parseWords .console ws)) (.text (joinText ws)) p
  | .target => arriveTarget (followTarget (parseWords .target ws)) (.text (joinText ws)) p

/-- What RLN makes of the argument words of a known verb: the refusal of the first bad word, or the request (R177, R178). -/
def verbRequest (v : Verb) (tag : Option Tag) (args : List Text) : Parsed :=
  match classifyWords args with
  | .inl code => .refused code tag
  | .inr as => .request ⟨v, tag, as⟩

/-- The line of a verb with its tag and arguments. -/
def verbLine (v : Verb) (tag : Option Tag) (args : List Text) : QueuedLine := .text (lineText tag (v.words ++ args))

/-- A console verb arrives with its tag and argument words. -/
def consoleVerb (v : Verb) (tag : Option Tag) (args : List Text) : Part → Part :=
  arriveConsole (followConsole (verbRequest v tag args)) (verbLine v tag args)

/-- A target verb arrives with its tag and argument words. -/
def targetVerb (v : Verb) (tag : Option Tag) (args : List Text) : Part → Part :=
  arriveTarget (followTarget (verbRequest v tag args)) (verbLine v tag args)

/-! ### Building a line (R170, R171) -/

/-- An empty partial line. -/
def emptyPartial : Partial := ⟨[], .nothing⟩

/-- The folding of a to z to A to Z (R170). -/
def foldChar (b : Byte) : Char :=
  if 0x61 ≤ b.toNat ∧ b.toNat ≤ 0x7A then Char.ofNat (b.toNat - 0x20) else Char.ofNat b.toNat

/-- A character to be kept (R170). -/
def keepChar (c : Char) (l : Partial) : Partial :=
  match l.mark with
  | .nothing => if l.kept.length < Config.lineLength then { l with kept := l.kept ++ [c] } else ⟨[], .tooLong⟩
  | _ => l

/-- A byte that a line cannot hold, or a framing error (R170). -/
def spoil (l : Partial) : Partial :=
  match l.mark with
  | .nothing => ⟨[], .bad⟩
  | _ => l

/-- Byte 08 (R170). -/
def backspace (l : Partial) : Partial :=
  match l.mark with
  | .nothing => { l with kept := l.kept.dropLast }
  | _ => l

/-- The complete line that a partial line makes at 0D, none for an empty one or spaces alone (R171). -/
def completedLine (l : Partial) : Option QueuedLine :=
  match l.mark with
  | .bad => some .bad
  | .tooLong => some .tooLong
  | .nothing => if l.kept.all (· = ' ') then none else some (.text l.kept)

/-- One received byte: the partial line after it, and the complete line it may have ended (R170, R171). -/
def buildLine (b : Byte) (l : Partial) : Partial × Option QueuedLine :=
  if b = 0x0D then (emptyPartial, completedLine l)
  else if b = 0x0A then (l, none)
  else if b = 0x08 then (backspace l, none)
  else if 0x20 ≤ b.toNat ∧ b.toNat ≤ 0x7E then (keepChar (foldChar b) l, none)
  else (spoil l, none)

/-- The console's partial line replaced. -/
def setConsoleLine (l : Partial) (p : Part) : Part := { p with con := { p.con with line := l } }

/-- The target line's partial line replaced. -/
def setTargetLine (l : Partial) (p : Part) : Part := { p with tgt := { p.tgt with line := l } }

/-- A byte received on the console; none is while the receiver waits for marking (R170, R175). -/
def receiveConsole (b : Byte) (p : Part) : Part :=
  if p.con.waitMarking then p
  else
    let r := buildLine b p.con.line
    let p := setConsoleLine r.1 p
    match r.2 with
    | none => p
    | some q => offerConsole q p

/-- A byte received on the target line; it is discarded while the line is closed (R169, R170, R175). -/
def receiveTarget (b : Byte) (p : Part) : Part :=
  if p.tgt.isOpen = false ∨ p.tgt.waitMarking then p
  else
    let r := buildLine b p.tgt.line
    let p := setTargetLine r.1 p
    match r.2 with
    | none => p
    | some q => offerTarget q p

/-- A received byte. -/
def receive (l : Line) (b : Byte) (p : Part) : Part :=
  match l with
  | .console => receiveConsole b p
  | .target => receiveTarget b p

/-- A framing error handed to line building (R169, R170). -/
def frameError (l : Line) (p : Part) : Part :=
  match l with
  | .console => if p.con.waitMarking then p else setConsoleLine (spoil p.con.line) p
  | .target => if p.tgt.isOpen = false ∨ p.tgt.waitMarking then p else setTargetLine (spoil p.tgt.line) p

/-! ### Break and marking (R175) -/

/-- A break on the console: partial line discarded, the receiver waits for marking, and SUP acts on it. A spacing interval
gives one break, so none comes while the receiver waits (R175). -/
def consoleBreak (p : Part) : Part :=
  if p.con.waitMarking then p
  else takeBreak { p with con := { p.con with line := emptyPartial, waitMarking := true } }

/-- The receive input of a line is back at marking (R175, R187). -/
def markingAgain (l : Line) (p : Part) : Part :=
  match l with
  | .console => { p with con := { p.con with waitMarking := false } }
  | .target => { p with tgt := { p.tgt with waitMarking := false } }

/-- The open target line has been at spacing for 20 bit times: only the receiver waits for marking (R175). -/
def targetSpacing (p : Part) : Part :=
  if p.tgt.isOpen then { p with tgt := { p.tgt with waitMarking := true } } else p

/-! ### The end of a record (R182, R183, R185) -/

/-- The RESTART that waited for the record that has left (R152). -/
def restartAfter (i : ConsoleItem) (p : Part) : Part :=
  if i.restart ∧ p.sup.restartPending then takeRestart p else p

/-- The rate switch that waited for the record that has left (R183). -/
def switchAfter (i : ConsoleItem) (p : Part) : Part :=
  if i.rateSwitch then { p with con := switchRate p.con } else p

/-- The console transmitter is free: the arbiter chooses again (R182). -/
def freeConsole (p : Part) : Part := { p with con := arbitrateConsole { p.con with tx := none } }

/-- The last character of a console record has left: the RESTART of R152, the switch of R183, the next record, and the lines
that may now be taken (R173, R182; their order here is a DESIGN CHOICE, notes/assumptions/19.md). -/
def consoleSent (p : Part) : Part :=
  match p.con.tx with
  | none => p
  | some i => pumpConsole (freeConsole (switchAfter i (restartAfter i p)))

/-- The target transmitter is free and begins the next record (R185). -/
def freeTarget (p : Part) : Part := { p with tgt := startTarget { p.tgt with tx := none } }

/-- The last character of a target-line record has left: the hold after "+712", the RESTART after "+803", otherwise the next
record and the lines that may now be taken (R123, R127, R153, R185). -/
def targetSent (p : Part) : Part :=
  match p.tgt.tx with
  | none => p
  | some i =>
    match i.after with
    | .revert => failWindow .reverted p
    | .reboot => takeRestart p
    | .nothing => pumpTarget (freeTarget p)

end Sys2Proof.Machine
end

