-- ==== Sys2Proof/Machine/Events.lean ====
section
/-! DEFINITION. The meaning of every command that is an event: resets, timers, answers of ports and memory, the settings
memory, the receivers and the transmitters. An event that the state leaves no room for (the expiry of a stopped timer, an
answer to no request) is discarded and changes nothing, as R6, R10 and R76 state for late answers (DESIGN CHOICE,
notes/assumptions/6.md). -/

namespace Sys2Proof.Machine

/-! ### Operations of the events -/

/-- SST has settled the working settings: the choice, notice 904, the port table, the console rate, and the end of INIT when
its timer has expired (R4, R139, R161, R183). -/
def settle (p : Part) : Part :=
  if p.sup.mode = .init ∧ p.sup.settled = false then
    let p := { p with sst := chooseSettings p.sst }
    let p := raise 904 none [.word p.sst.source.name, .num (newestGeneration p.sst)] p
    let p := { p with
      spc := { p.spc with ports := some (freshPorts p.sst.settings.kinds p.spc.sense) }
      con := settleRate p.sst.settings.conrate p.con
      sup := { p.sup with settled := true } }
    if p.sup.initTimer then p else endInit p
  else p

/-- The INIT timer expires, and INIT ends when the settings are settled (R139). -/
def initExpiry (p : Part) : Part :=
  if p.sup.mode = .init ∧ p.sup.initTimer then
    let p := { p with sup := { p.sup with initTimer := false } }
    if p.sup.settled then endInit p else p
  else p

/-- The answer of the device on a port of a kind: the exchange in flight ends with the result the answer gives; an answer
that fits no exchange in flight is discarded (R6). While an exchange is in flight the answer is taken as its own, even when one
before it timed out (DESIGN CHOICE, notes/assumptions/28.md). -/
def answerExchange (kind : PortKind) (result : PortOp → Option ExchangeResult) (port : Port) (p : Part) : Part :=
  match entryOf p port with
  | none => p
  | some e =>
    match e.op with
    | none => p
    | some f =>
      if e.kind ≠ kind then p
      else
        match result f.op with
        | none => p
        | some r => exchangeEnded port e f r p

/-- Bytes received on a LINK port that make at most one frame. While a request is outstanding they are kept until they make the
frame, which ends the exchange; otherwise they are discarded (R18, R19; in pieces is a DESIGN CHOICE, notes/assumptions/12.md). -/
def linkPiece (port : Port) (p : Part) (bytes : List Byte) : Part :=
  match entryOf p port with
  | none => p
  | some e =>
    match e.op with
    | none => p
    | some f =>
      if e.kind ≠ .link then p
      else
        match assemble (f.received ++ bytes) with
        | .incomplete => setEntry port { e with op := some { f with received := f.received ++ bytes } } p
        | .malformed => exchangeEnded port e f (badAnswer f.op) p
        | .frame x => exchangeEnded port e f (judgeFrame f.op f.unit x) p

/-- Bytes received on a LINK port: those after a frame go to the request that is then outstanding, a retry or the requester's next,
and with none outstanding they are discarded (R18). -/
def linkBytes (port : Port) (bytes : List Byte) (p : Part) : Part :=
  let received := (((entryOf p port).bind PortEntry.op).map InFlight.received).getD []
  (linkPieces (bytes.length + 1) received bytes).foldl (linkPiece port) p

/-- The exchange timer of a port expires (R6). -/
def exchangeExpiry (port : Port) (p : Part) : Part :=
  match entryOf p port with
  | none => p
  | some e =>
    match e.op with
    | none => p
    | some f => if f.timer.isSome then exchangeEnded port e f .timeout p else p

/-- The last byte of a LINK request has been sent: the exchange timer starts (R18). -/
def linkSent (port : Port) (p : Part) : Part :=
  match entryOf p port with
  | none => p
  | some e =>
    match e.op with
    | none => p
    | some f =>
      if e.kind = .link ∧ f.timer = none then
        setEntry port { e with op := some { f with timer := some e.kind.timeoutMs } } p
      else p

/-- The sense input of a port takes a level. On a CARD port a level that differs from the card-present flag begins the 50 ms
hold, and the flag's own level ends one that runs (R15; DEDUCED, notes/assumptions/11.md). -/
def senseLevel (port : Port) (card : Bool) (p : Part) : Part :=
  let p := { p with spc := { p.spc with sense := p.spc.sense.set port card } }
  match entryOf p port with
  | none => p
  | some e =>
    if e.kind = .card then setEntry port { e with hold := if e.cardPresent = card then none else some card } p else p

/-- SRE is told of an insert: a round wait ends (R15 step 4, R50). -/
def insertTold (p : Part) : Part :=
  match p.sre.run.map SearchRun.stage with
  | some .waiting => endRoundWait p
  | _ => p

/-- A level that shows a card has been held for 50 ms (R15). -/
def cardIn (port : Port) (p : Part) : Part :=
  match entryOf p port with
  | none => p
  | some e =>
    if e.kind = .card ∧ e.hold = some true then
      insertTold (raise 201 none [.num port.num] (setEntry port (cardEvent true e) p))
    else p

/-- A level that shows no card has been held for 50 ms; an operation in flight ends (R15, R16; the notice
before the result is DEDUCED, notes/assumptions/11.md). -/
def cardOut (port : Port) (p : Part) : Part :=
  match entryOf p port with
  | none => p
  | some e =>
    if e.kind = .card ∧ e.hold = some false then
      let p := raise 202 none [.num port.num] (setEntry port (endByRemoval (cardEvent false e)) p)
      match e.op with
      | none => p
      | some f => deliver (removalResult f) p
    else p

/-- The question timer expires (R54). -/
def questionExpiry (p : Part) : Part :=
  if p.sre.questionTimer.isSome then questionOutcome .unknownTimeout p else p

/-- The round wait timer expires (R50). -/
def waitExpiry (p : Part) : Part :=
  if p.sre.waitTimer.isSome then endRoundWait p else p

/-- The window timer expires (R124). -/
def windowExpiry (p : Part) : Part :=
  if p.rlu.windowTimer.isSome then failWindow .confirmTimeout p else p

/-- MRDY and MERR as the memory drives them, with the word on the bus (R76). While a transaction is in flight they are taken as its
response, even when an expired transaction came before it: R76 disregards a late response but does not say how one is told apart
then (DESIGN CHOICE, notes/assumptions/28.md). -/
def busResponse (mrdy merr : Bool) (word : Word32) (p : Part) : Part :=
  match p.mmp.txn with
  | none => p
  | some t =>
    match busOutcome t mrdy merr word with
    | none => p
    | some o => txnEnded t o p

/-- The response timer expires (R76). -/
def responseExpiry (p : Part) : Part :=
  match p.mmp.txn with
  | none => p
  | some t => txnEnded t .noResponse p

/-- The write of the settings memory ends before its timer (R163). -/
def writeEnded (e : WriteEnd) (p : Part) : Part :=
  match p.sst.saving with
  | none => p
  | some s =>
    match e with
    | .readBackEqual => saveDone s p
    | .readBackDiffers => saveFailed s p
    | .writeError => saveFailed s p

/-- The save timer expires (R163). -/
def saveExpiry (p : Part) : Part :=
  match p.sst.saving with
  | none => p
  | some s => saveFailed s p

/-! ### Resets and INIT -/

/-- POWER_ON (R138). -/
def execPowerOn (s : State) : Host.Outcome State Fault Refusal := s.on (takePowerReset .powerOn)

/-- PIN_RESET (R138). -/
def execPinReset (s : State) : Host.Outcome State Fault Refusal := s.on (takePowerReset .pin)

/-- SETTINGS_SETTLED (R161). -/
def execSettingsSettled (s : State) : Host.Outcome State Fault Refusal := s.on settle

/-- INIT_TIMER_EXPIRY (R139). -/
def execInitTimerExpiry (s : State) : Host.Outcome State Fault Refusal := s.on initExpiry

/-! ### Source ports -/

/-- FLASH_EXCHANGE_END (R14). -/
def execFlashExchangeEnd (port : Port) (a : FlashAnswer) (s : State) : Host.Outcome State Fault Refusal :=
  s.on (answerExchange .flash (fun op => flashResult op a) port)

/-- CARD_EXCHANGE_END (R16). -/
def execCardExchangeEnd (port : Port) (a : CardAnswer) (s : State) : Host.Outcome State Fault Refusal :=
  s.on (answerExchange .card (fun op => cardResult op a) port)

/-- BLOCK_EXCHANGE_END (R17). -/
def execBlockExchangeEnd (port : Port) (a : BlockAnswer) (s : State) : Host.Outcome State Fault Refusal :=
  s.on (answerExchange .block (fun op => blockResult op a) port)

/-- LINK_ANSWER_FRAME (R19). -/
def execLinkAnswerFrame (port : Port) (bytes : List Byte) (s : State) : Host.Outcome State Fault Refusal :=
  s.on (linkBytes port bytes)

/-- EXCHANGE_TIMEOUT (R6). -/
def execExchangeTimeout (port : Port) (s : State) : Host.Outcome State Fault Refusal := s.on (exchangeExpiry port)

/-- LINK_REQUEST_SENT (R18). -/
def execLinkRequestSent (port : Port) (s : State) : Host.Outcome State Fault Refusal := s.on (linkSent port)

/-- CARD_SENSE_CHANGE (R15). -/
def execCardSenseChange (port : Port) (card : Bool) (s : State) : Host.Outcome State Fault Refusal :=
  s.on (senseLevel port card)

/-- CARD_INSERTED (R15). -/
def execCardInserted (port : Port) (s : State) : Host.Outcome State Fault Refusal := s.on (cardIn port)

/-- CARD_REMOVED (R15). -/
def execCardRemoved (port : Port) (s : State) : Host.Outcome State Fault Refusal := s.on (cardOut port)

/-! ### Timers of the search and the release -/

/-- QUESTION_TIMER_EXPIRY (R54). -/
def execQuestionTimerExpiry (s : State) : Host.Outcome State Fault Refusal := s.on questionExpiry

/-- ROUND_WAIT_EXPIRY (R50). -/
def execRoundWaitExpiry (s : State) : Host.Outcome State Fault Refusal := s.on waitExpiry

/-- WINDOW_EXPIRY (R124). -/
def execWindowExpiry (s : State) : Host.Outcome State Fault Refusal := s.on windowExpiry

/-! ### Memory port and settings memory -/

/-- MEMORY_RESPONSE (R76). -/
def execMemoryResponse (mrdy merr : Bool) (word : Word32) (s : State) : Host.Outcome State Fault Refusal :=
  s.on (busResponse mrdy merr word)

/-- RESPONSE_TIMEOUT (R76). -/
def execResponseTimeout (s : State) : Host.Outcome State Fault Refusal := s.on responseExpiry

/-- SAVE_WRITE_END (R163). -/
def execSaveWriteEnd (e : WriteEnd) (s : State) : Host.Outcome State Fault Refusal := s.on (writeEnded e)

/-- SAVE_TIMER_EXPIRY (R163). -/
def execSaveTimerExpiry (s : State) : Host.Outcome State Fault Refusal := s.on saveExpiry

/-! ### Receivers and transmitters -/

/-- RECEIVED_BYTE (R170). -/
def execReceivedByte (l : Line) (b : Byte) (s : State) : Host.Outcome State Fault Refusal := s.on (receive l b)

/-- FRAMING_ERROR (R169). -/
def execFramingError (l : Line) (s : State) : Host.Outcome State Fault Refusal := s.on (frameError l)

/-- BREAK (R175). -/
def execLineBreak (s : State) : Host.Outcome State Fault Refusal := s.on consoleBreak

/-- RETURN_TO_MARKING (R175). -/
def execReturnToMarking (l : Line) (s : State) : Host.Outcome State Fault Refusal := s.on (markingAgain l)

/-- TARGET_LINE_SPACING_HELD (R175). -/
def execTargetLineSpacingHeld (s : State) : Host.Outcome State Fault Refusal := s.on targetSpacing

/-- CONSOLE_RECORD_SENT (R182). -/
def execConsoleRecordSent (s : State) : Host.Outcome State Fault Refusal := s.on consoleSent

/-- TARGET_RECORD_SENT (R185). -/
def execTargetRecordSent (s : State) : Host.Outcome State Fault Refusal := s.on targetSent

end Sys2Proof.Machine
end

