-- ==== Sys2Proof/Machine/Requests.lean ====
section
/-! DEFINITION. The meaning of every command that is a line of a serial line: the lines RLN answers itself, and the verbs. A
command stands for the complete request line with its words; it is taken as R173 and R174 let it be taken. -/

namespace Sys2Proof.Machine

/-! ### Lines that RLN answers itself -/

/-- BAD_LINE (R173). -/
def execBadLine (l : Line) (s : State) : Host.Outcome State Fault Refusal :=
  s.on (match l with
    | .console => arriveConsole (takeConsoleLine .bad) .bad
    | .target => arriveTarget (takeTargetLine .bad) .bad)

/-- LINE_TOO_LONG (R173). -/
def execLineTooLong (l : Line) (s : State) : Host.Outcome State Fault Refusal :=
  s.on (match l with
    | .console => arriveConsole (takeConsoleLine .tooLong) .tooLong
    | .target => arriveTarget (takeTargetLine .tooLong) .tooLong)

/-- UNKNOWN_VERB (R176). -/
def execUnknownVerb (l : Line) (tag : Option Tag) (words : List Text) (s : State) : Host.Outcome State Fault Refusal :=
  s.on (arriveWords l (lineWords tag words))

/-- MALFORMED_TAG (R176). -/
def execMalformedTag (l : Line) (rest : Text) (words : List Text) (s : State) : Host.Outcome State Fault Refusal :=
  s.on (arriveWords l (('#' :: rest) :: words))

/-! ### Console verbs -/

/-- ABORT (R148). -/
def execAbort (tag : Option Tag) (args : List Text) (s : State) : Host.Outcome State Fault Refusal :=
  s.on (consoleVerb .abort tag args)

/-- ANSWER (R53). -/
def execAnswer (tag : Option Tag) (args : List Text) (s : State) : Host.Outcome State Fault Refusal :=
  s.on (consoleVerb .answer tag args)

/-- BOOT (R131). -/
def execBoot (tag : Option Tag) (args : List Text) (s : State) : Host.Outcome State Fault Refusal :=
  s.on (consoleVerb .boot tag args)

/-- CHECK (R86). -/
def execCheck (tag : Option Tag) (args : List Text) (s : State) : Host.Outcome State Fault Refusal :=
  s.on (consoleVerb .check tag args)

/-- DEFAULTS (R165). -/
def execDefaults (tag : Option Tag) (args : List Text) (s : State) : Host.Outcome State Fault Refusal :=
  s.on (consoleVerb .defaults tag args)

/-- DEFECTS (R97). -/
def execDefects (tag : Option Tag) (args : List Text) (s : State) : Host.Outcome State Fault Refusal :=
  s.on (consoleVerb .defects tag args)

/-- GET (R159). -/
def execGet (tag : Option Tag) (args : List Text) (s : State) : Host.Outcome State Fault Refusal :=
  s.on (consoleVerb .get tag args)

/-- GO (R130). -/
def execGo (tag : Option Tag) (args : List Text) (s : State) : Host.Outcome State Fault Refusal :=
  s.on (consoleVerb .go tag args)

/-- HOLD (R128). -/
def execHold (tag : Option Tag) (args : List Text) (s : State) : Host.Outcome State Fault Refusal :=
  s.on (consoleVerb .hold tag args)

/-- LOG (R58). -/
def execLog (tag : Option Tag) (args : List Text) (s : State) : Host.Outcome State Fault Refusal :=
  s.on (consoleVerb .log tag args)

/-- MAP_PUT (R68). -/
def execMapPut (tag : Option Tag) (args : List Text) (s : State) : Host.Outcome State Fault Refusal :=
  s.on (consoleVerb .mapPut tag args)

/-- MAP_DEL (R70). -/
def execMapDel (tag : Option Tag) (args : List Text) (s : State) : Host.Outcome State Fault Refusal :=
  s.on (consoleVerb .mapDel tag args)

/-- MAP_LIST (R71). -/
def execMapList (tag : Option Tag) (args : List Text) (s : State) : Host.Outcome State Fault Refusal :=
  s.on (consoleVerb .mapList tag args)

/-- ORDER_PUT (R39). -/
def execOrderPut (tag : Option Tag) (args : List Text) (s : State) : Host.Outcome State Fault Refusal :=
  s.on (consoleVerb .orderPut tag args)

/-- ORDER_DEL (R40). -/
def execOrderDel (tag : Option Tag) (args : List Text) (s : State) : Host.Outcome State Fault Refusal :=
  s.on (consoleVerb .orderDel tag args)

/-- ORDER_MOVE (R41). -/
def execOrderMove (tag : Option Tag) (args : List Text) (s : State) : Host.Outcome State Fault Refusal :=
  s.on (consoleVerb .orderMove tag args)

/-- ORDER_LIST (R42). -/
def execOrderList (tag : Option Tag) (args : List Text) (s : State) : Host.Outcome State Fault Refusal :=
  s.on (consoleVerb .orderList tag args)

/-- PEEK (R78). -/
def execPeek (tag : Option Tag) (args : List Text) (s : State) : Host.Outcome State Fault Refusal :=
  s.on (consoleVerb .peek tag args)

/-- POKE (R80). -/
def execPoke (tag : Option Tag) (args : List Text) (s : State) : Host.Outcome State Fault Refusal :=
  s.on (consoleVerb .poke tag args)

/-- PORTS (R20). -/
def execPorts (tag : Option Tag) (args : List Text) (s : State) : Host.Outcome State Fault Refusal :=
  s.on (consoleVerb .ports tag args)

/-- PROBE (R21). -/
def execProbe (tag : Option Tag) (args : List Text) (s : State) : Host.Outcome State Fault Refusal :=
  s.on (consoleVerb .probe tag args)

/-- RESTART (R152). -/
def execRestart (tag : Option Tag) (args : List Text) (s : State) : Host.Outcome State Fault Refusal :=
  s.on (consoleVerb .restart tag args)

/-- SAVE (R162). -/
def execSave (tag : Option Tag) (args : List Text) (s : State) : Host.Outcome State Fault Refusal :=
  s.on (consoleVerb .save tag args)

/-- SEEK (R63). -/
def execSeek (tag : Option Tag) (args : List Text) (s : State) : Host.Outcome State Fault Refusal :=
  s.on (consoleVerb .seek tag args)

/-- SET (R156). -/
def execSet (tag : Option Tag) (args : List Text) (s : State) : Host.Outcome State Fault Refusal :=
  s.on (consoleVerb .set tag args)

/-- SPENT (R60). -/
def execSpent (tag : Option Tag) (args : List Text) (s : State) : Host.Outcome State Fault Refusal :=
  s.on (consoleVerb .spent tag args)

/-- STAGE (R113). -/
def execStage (tag : Option Tag) (args : List Text) (s : State) : Host.Outcome State Fault Refusal :=
  s.on (consoleVerb .stage tag args)

/-- VOLUME (R35). -/
def execVolume (tag : Option Tag) (args : List Text) (s : State) : Host.Outcome State Fault Refusal :=
  s.on (consoleVerb .volume tag args)

/-- STAT, on either line (R126, R151). -/
def execStat (l : Line) (tag : Option Tag) (args : List Text) (s : State) : Host.Outcome State Fault Refusal :=
  s.on (match l with
    | .console => consoleVerb .stat tag args
    | .target => targetVerb .stat tag args)

/-! ### Target verbs -/

/-- ALIVE (R121). -/
def execAlive (tag : Option Tag) (args : List Text) (s : State) : Host.Outcome State Fault Refusal :=
  s.on (targetVerb .alive tag args)

/-- REVERT (R123). -/
def execRevert (tag : Option Tag) (args : List Text) (s : State) : Host.Outcome State Fault Refusal :=
  s.on (targetVerb .revert tag args)

/-- HAND (R127). -/
def execHand (tag : Option Tag) (args : List Text) (s : State) : Host.Outcome State Fault Refusal :=
  s.on (targetVerb .hand tag args)

/-- REBOOT (R127). -/
def execReboot (tag : Option Tag) (args : List Text) (s : State) : Host.Outcome State Fault Refusal :=
  s.on (targetVerb .reboot tag args)

end Sys2Proof.Machine
end

