-- ==== Sys2Proof/Machine/Dispatch.lean ====
section
/-! DEFINITION. One arm for each command of the table, each a direct call of its meaning. -/

namespace Sys2Proof.Machine

def exec (i : Instr) (s : State) : Host.Outcome State Fault Refusal :=
  match i with
  | .powerOn => Sys2Proof.Machine.execPowerOn s
  | .pinReset => Sys2Proof.Machine.execPinReset s
  | .settingsSettled => Sys2Proof.Machine.execSettingsSettled s
  | .initTimerExpiry => Sys2Proof.Machine.execInitTimerExpiry s
  | .flashExchangeEnd p a => Sys2Proof.Machine.execFlashExchangeEnd p a s
  | .cardExchangeEnd p a => Sys2Proof.Machine.execCardExchangeEnd p a s
  | .blockExchangeEnd p a => Sys2Proof.Machine.execBlockExchangeEnd p a s
  | .linkAnswerFrame p bytes => Sys2Proof.Machine.execLinkAnswerFrame p bytes s
  | .exchangeTimeout p => Sys2Proof.Machine.execExchangeTimeout p s
  | .cardSenseChange p card => Sys2Proof.Machine.execCardSenseChange p card s
  | .cardInserted p => Sys2Proof.Machine.execCardInserted p s
  | .cardRemoved p => Sys2Proof.Machine.execCardRemoved p s
  | .questionTimerExpiry => Sys2Proof.Machine.execQuestionTimerExpiry s
  | .roundWaitExpiry => Sys2Proof.Machine.execRoundWaitExpiry s
  | .windowExpiry => Sys2Proof.Machine.execWindowExpiry s
  | .memoryResponse mrdy merr word => Sys2Proof.Machine.execMemoryResponse mrdy merr word s
  | .responseTimeout => Sys2Proof.Machine.execResponseTimeout s
  | .saveWriteEnd e => Sys2Proof.Machine.execSaveWriteEnd e s
  | .saveTimerExpiry => Sys2Proof.Machine.execSaveTimerExpiry s
  | .receivedByte l b => Sys2Proof.Machine.execReceivedByte l b s
  | .framingError l => Sys2Proof.Machine.execFramingError l s
  | .lineBreak => Sys2Proof.Machine.execLineBreak s
  | .badLine l => Sys2Proof.Machine.execBadLine l s
  | .lineTooLong l => Sys2Proof.Machine.execLineTooLong l s
  | .unknownVerb l tag words => Sys2Proof.Machine.execUnknownVerb l tag words s
  | .abort tag args => Sys2Proof.Machine.execAbort tag args s
  | .answer tag args => Sys2Proof.Machine.execAnswer tag args s
  | .boot tag args => Sys2Proof.Machine.execBoot tag args s
  | .check tag args => Sys2Proof.Machine.execCheck tag args s
  | .defaults tag args => Sys2Proof.Machine.execDefaults tag args s
  | .defects tag args => Sys2Proof.Machine.execDefects tag args s
  | .get tag args => Sys2Proof.Machine.execGet tag args s
  | .go tag args => Sys2Proof.Machine.execGo tag args s
  | .hold tag args => Sys2Proof.Machine.execHold tag args s
  | .log tag args => Sys2Proof.Machine.execLog tag args s
  | .mapPut tag args => Sys2Proof.Machine.execMapPut tag args s
  | .mapDel tag args => Sys2Proof.Machine.execMapDel tag args s
  | .mapList tag args => Sys2Proof.Machine.execMapList tag args s
  | .orderPut tag args => Sys2Proof.Machine.execOrderPut tag args s
  | .orderDel tag args => Sys2Proof.Machine.execOrderDel tag args s
  | .orderMove tag args => Sys2Proof.Machine.execOrderMove tag args s
  | .orderList tag args => Sys2Proof.Machine.execOrderList tag args s
  | .peek tag args => Sys2Proof.Machine.execPeek tag args s
  | .poke tag args => Sys2Proof.Machine.execPoke tag args s
  | .ports tag args => Sys2Proof.Machine.execPorts tag args s
  | .probe tag args => Sys2Proof.Machine.execProbe tag args s
  | .restart tag args => Sys2Proof.Machine.execRestart tag args s
  | .save tag args => Sys2Proof.Machine.execSave tag args s
  | .seek tag args => Sys2Proof.Machine.execSeek tag args s
  | .set tag args => Sys2Proof.Machine.execSet tag args s
  | .spent tag args => Sys2Proof.Machine.execSpent tag args s
  | .stage tag args => Sys2Proof.Machine.execStage tag args s
  | .stat l tag args => Sys2Proof.Machine.execStat l tag args s
  | .volume tag args => Sys2Proof.Machine.execVolume tag args s
  | .alive tag args => Sys2Proof.Machine.execAlive tag args s
  | .revert tag args => Sys2Proof.Machine.execRevert tag args s
  | .hand tag args => Sys2Proof.Machine.execHand tag args s
  | .reboot tag args => Sys2Proof.Machine.execReboot tag args s
  | .consoleRecordSent => Sys2Proof.Machine.execConsoleRecordSent s
  | .targetRecordSent => Sys2Proof.Machine.execTargetRecordSent s
  | .returnToMarking l => Sys2Proof.Machine.execReturnToMarking l s
  | .targetLineSpacingHeld => Sys2Proof.Machine.execTargetLineSpacingHeld s
  | .linkRequestSent p => Sys2Proof.Machine.execLinkRequestSent p s
  | .malformedTag l rest words => Sys2Proof.Machine.execMalformedTag l rest words s

end Sys2Proof.Machine
end

