-- ==== Sys2Proof/Machine/Step.lean ====
section
/-! DEFINITION. The step of the machine: the command at the front of the queue runs. -/

namespace Sys2Proof.Machine

/-- One step: the command at the front of the queue is taken out and runs on the rest; with no command waiting the part
idles (DESIGN CHOICE, notes/assumptions/1.md; no step is a tick of a clock, notes/assumptions/7.md). -/
def step (s : State) : Host.Outcome State Fault Refusal :=
  match s.pending with
  | [] => .next s
  | c :: rest => exec c { s with pending := rest }

/-- The state with the command that a word spells put at the front of its queue. No row of the table has bits, so no word
spells a command (DESIGN CHOICE, notes/assumptions/1.md). -/
def State.withFetchWord (s : State) (nbits w : Nat) : State :=
  match decodeTableWord nbits w with
  | some c => { s with pending := c :: s.pending }
  | none => s

end Sys2Proof.Machine
end

