-- ==== Sys2Proof/Machine/Pins.lean ====
section
/-! DEFINITION. What the part drives at its pins, read off the state: the device commands on the source ports, the memory
port, TRESET, and the record each transmitter is sending. -/

namespace Sys2Proof.Machine

/-- What SPC has sent the unit of the exchange in progress (R14, R16, R17, R18). -/
inductive DeviceCommand where
  /-- FLASH identify, then the status read until it shows ready (R14) -/
  | flashIdentify
  /-- FLASH read of 512 bytes at a byte address (R14) -/
  | flashRead (byteAddress : Nat)
  /-- CARD go-idle, interface condition, initialize and capacity (R16) -/
  | cardInitialize
  /-- CARD single-block read (R16) -/
  | cardRead (block : Nat)
  /-- BLOCK unit select and status command (R17) -/
  | blockStatus (unit : Nat)
  /-- BLOCK unit select and read command with its block number (R17) -/
  | blockRead (unit block : Nat)
  /-- LINK request frame (R18, R25) -/
  | linkRequest (frame : List Byte)
  deriving DecidableEq, Repr

/-- The device command of an operation on a kind of port. -/
def deviceCommand (kind : PortKind) (f : InFlight) : Option DeviceCommand :=
  match kind, f.op with
  | .unused, _ => none
  | .flash, .probe => some .flashIdentify
  | .flash, .read block _ _ => some (.flashRead (block * Config.blockBytes))
  | .card, .probe => some .cardInitialize
  | .card, .read block _ _ => some (.cardRead block)
  | .block, .probe => some (.blockStatus f.unit)
  | .block, .read block _ _ => some (.blockRead f.unit block)
  | .link, _ => some (.linkRequest f.frame)

/-- What a port drives: the command of its operation in flight, nothing when it has none. -/
def portDrives (p : Part) (port : Port) : Option DeviceCommand :=
  match entryOf p port with
  | none => none
  | some e =>
    match e.op with
    | none => none
    | some f => deviceCommand e.kind f

/-- The state of the memory port's lines (R74, R76). -/
inductive BusDrive where
  /-- every line undriven: the target has its memory (TRESET freed) -/
  | undriven
  /-- control lines at their inactive levels -/
  | inactive
  /-- a READ cycle at an address -/
  | reading (address : Nat)
  /-- a WRITE cycle at an address with its word -/
  | writing (address : Nat) (word : Word32)
  deriving DecidableEq, Repr

/-- What MMP drives on the memory port (R74, R76). -/
def busDrive (p : Part) : BusDrive :=
  match p.rlu.treset, p.mmp.txn with
  | .freed, _ => .undriven
  | .asserted, none => .inactive
  | .asserted, some t =>
    match t.kind with
    | .read => .reading t.address
    | .write w => .writing t.address w

/-- TRESET at the high level: the target runs (R116). -/
def tresetHigh (p : Part) : Bool :=
  match p.rlu.treset with
  | .freed => true
  | .asserted => false

/-- The characters of the record that the console transmitter is sending (R179, R182, R187). -/
def consoleSending (p : Part) : Option Text := p.con.tx.map ConsoleItem.text

/-- The characters of the record that the target transmitter is sending (R179, R185). -/
def targetSending (p : Part) : Option Text := p.tgt.tx.map fun i => i.record.text

end Sys2Proof.Machine
end

