-- ==== Sys2Proof/Safety.lean ====
section
/-! DEFINITION. What counts as a sound state: the conditions the spec says always hold of the settings, the stored copies,
the lists and queues, the mode and the slot, and the target's reset. They are the invariants the statements are about. -/

namespace Sys2Proof.Machine

/-! ### Settings (R38, R66, R154, R160) -/

/-- The rule of R38 for one entry. -/
def BootEntry.sound (e : BootEntry) : Bool :=
  e.first ≤ e.last && e.last ≤ 7 && 1 ≤ e.tries && e.tries ≤ 15

/-- The rule of R66 for one region. -/
def Region.sound (r : Region) : Bool :=
  r.base % Config.pageBytes = 0 && r.size % Config.pageBytes = 0 && Config.pageBytes ≤ r.size &&
    r.base + r.size ≤ Config.addressEnd && !(r.load && r.preserve)

/-- The rule of R66 for the map: each region, and no two overlapping. -/
def mapSound (map : Eight (Option Region)) : Bool :=
  Idx.all.all fun i =>
    match map.get i with
    | none => true
    | some r => r.sound && !overlapsOther map i r

/-- The ranges of R154, the rule of R38 and the rule of R66. -/
def Settings.sound (s : Settings) : Bool :=
  lineRates.contains s.conrate && lineRates.contains s.tgtrate && 1 ≤ s.shortwait && s.shortwait ≤ 60 &&
    10 ≤ s.longwait && s.longwait ≤ 3600 && s.maxrounds ≤ 255 && s.askwait ≤ 600 && s.confirm ≤ 600 && 1 ≤ s.budget &&
    s.budget ≤ 8 && s.rawbase ≤ 0xFFFFF000 && s.rawbase % 0x1000 = 0 && 1 ≤ s.rawblocks && s.rawblocks ≤ 256 &&
    s.retries ≤ 7 && s.order.length ≤ Config.orderCapacity && s.order.all BootEntry.sound && mapSound s.map

/-- The working settings, the settings of both stored copies and the snapshot of a SAVE in flight are sound (R160). -/
def settingsSound (p : Part) : Prop :=
  p.sst.settings.sound = true ∧ (∀ c, p.sst.areaA = some c → c.settings.sound = true) ∧
    (∀ c, p.sst.areaB = some c → c.settings.sound = true) ∧ ∀ v, p.sst.saving = some v → v.snapshot.sound = true

/-! ### INIT (R135, R138) -/

/-- No port has an operation in flight. -/
def portsQuiet (p : Part) : Prop := ∀ port e, entryOf p port = some e → e.op = none

/-- Nothing is in progress, no timer but the INIT and save timers runs, and the target is held with its line closed. -/
def Idle (p : Part) : Prop :=
  p.sup.slot = none ∧ p.sup.verbRun = none ∧ p.sup.runTag = none ∧ p.sup.restartPending = false ∧
    p.sup.abortPending = false ∧ p.sre.run = none ∧ p.sre.question = none ∧
    p.sre.questionTimer = none ∧ p.sre.waitTimer = none ∧ p.mck.run = none ∧ p.mmp.txn = none ∧ p.ldr.plan = none ∧
    p.ldr.image = .nothing ∧ p.rlu.treset = .asserted ∧ p.rlu.released = none ∧ p.rlu.windowTimer = none ∧
    p.tgt.isOpen = false ∧ p.tgt.tx = none ∧ portsQuiet p

/-- During INIT nothing is in progress, and only during INIT are the settings unsettled (R138, R139). -/
def initIdle (p : Part) : Prop := (p.sup.mode = .init → Idle p) ∧ (p.sup.settled = false → p.sup.mode = .init)

/-! ### Stored copies (R160 to R163) -/

/-- The generation of the valid copy that an area holds. -/
def validGeneration (c : Option StoredCopy) : Option Nat := (validCopy c).map StoredCopy.generation

/-- The area that a SAVE does not write. -/
def Area.other : Area → Area
  | .a => .b
  | .b => .a

/-- The copy record of an area. -/
def copyRecord (t : Sst) : Area → Option Nat
  | .a => t.recordA
  | .b => t.recordB

/-- Two valid stored copies never share a generation; once the settings are settled the copy records tell what the areas hold;
and a SAVE in flight writes an area that holds no copy, with a generation above the other's (R160 to R163). -/
def copiesSound (p : Part) : Prop :=
  (∀ g, validGeneration p.sst.areaA = some g → validGeneration p.sst.areaB = some g → False) ∧
    (p.sup.settled = true →
      p.sst.recordA = validGeneration p.sst.areaA ∧ p.sst.recordB = validGeneration p.sst.areaB) ∧
    ∀ v, p.sst.saving = some v →
      areaCopy p.sst v.area = none ∧
        ∀ g, validGeneration (areaCopy p.sst v.area.other) = some g → g < v.generation

/-! ### Attempt log, spent list, defect list (R56, R59, R61, R90) -/

/-- The sequence number that follows one (R56). -/
def nextSequence (n : Nat) : Nat := if n = 0xFFFF then 1 else n + 1

/-- The records are numbered each after the one before, and the number to come follows the last (R56). -/
def numbered (next : Nat) : List AttemptRecord → Prop
  | [] => True
  | [r] => next = nextSequence r.seq
  | r :: q :: rest => q.seq = nextSequence r.seq ∧ numbered next (q :: rest)

/-- The lists keep their limits and the log its numbering (R56, R59, R61, R90). -/
def listsSound (p : Part) : Prop :=
  p.sre.log.length ≤ Config.logCapacity ∧ numbered p.sre.nextSeq p.sre.log ∧ 1 ≤ p.sre.nextSeq ∧ p.sre.nextSeq ≤ 0xFFFF ∧
    (∀ r ∈ p.sre.log, 1 ≤ r.seq ∧ r.seq ≤ 0xFFFF) ∧ p.sre.spent.length ≤ Config.spentCapacity ∧
    p.sre.releaseCount ≤ 0xFF ∧ p.mck.defects.length ≤ Config.defectCapacity ∧ p.mck.dropped ≤ 0xFFFF

/-! ### Lines (R170, R172, R173, R180, R182, R185) -/

/-- A verb whose single reply comes when its operation ends (R143). -/
def defersReply : Option VerbRun → Bool
  | some (.probe ..) | some (.volume ..) | some (.peek ..) | some (.poke ..) => true
  | _ => false

/-- The console keeps its limits; while lines wait a reply waits; a loss is reported as soon as the queue has room; a free
transmitter leaves nothing waiting (R170, R172, R173, R180, R182). -/
def consoleSound (p : Part) : Prop :=
  p.con.line.kept.length ≤ Config.lineLength ∧ p.con.lines.length ≤ Config.lineCapacity ∧ p.con.replies.length ≤ 2 ∧
    (defersReply p.sup.verbRun = true → p.con.replies.length ≤ 1) ∧ (p.con.lines ≠ [] → p.con.replies ≠ []) ∧
    p.con.notices.length ≤ Config.noticeCapacity ∧ p.con.lost ≤ 0xFF ∧
    (0 < p.con.lost → p.con.notices.length = Config.noticeCapacity) ∧
    (p.con.tx = none → p.con.replies = [] ∧ p.con.question = none ∧ p.con.notices = [])

/-- The target line keeps its limits, is empty while closed, and a free transmitter leaves nothing waiting; a line waits only
behind a reply, or while RLU takes no further request (R170, R172, R174, R184 to R186). -/
def targetSound (p : Part) : Prop :=
  p.tgt.line.kept.length ≤ Config.lineLength ∧ p.tgt.lines.length ≤ Config.lineCapacity ∧ p.tgt.queue.length ≤ 1 ∧
    (p.tgt.isOpen = false → p.tgt.line = ⟨[], .nothing⟩ ∧ p.tgt.lines = [] ∧ p.tgt.queue = [] ∧ p.tgt.tx = none) ∧
    (p.tgt.tx = none → p.tgt.queue = []) ∧ (∀ i ∈ p.tgt.queue, i.record.form ≠ .notice) ∧
    (p.tgt.lines ≠ [] → p.tgt.queue ≠ [] ∨ p.tgt.accepting = false)

/-! ### The operation slot (R74, R98, R116, R117, R137) -/

/-- No search run, no check run and no verb's run is in progress. -/
def nothingRuns (p : Part) : Bool := p.sre.run.isNone && p.mck.run.isNone && p.sup.verbRun.isNone

/-- The verb whose run this is. -/
def VerbRun.verb : VerbRun → SlotVerb
  | .probe .. => .probe
  | .volume .. => .volume
  | .peek .. => .peek
  | .poke .. => .poke
  | .start true .. => .boot
  | .start false .. => .stage

/-- The slot is held in AUTO and in MANUAL BUSY and empty in the other modes, and what runs is what the holder runs (R137). -/
def holderSound (p : Part) : Bool :=
  match p.sup.slot, p.sup.mode with
  | none, .auto _ => false
  | none, .manual (some _) => false
  | none, _ => nothingRuns p
  | some .automaticCheck, .auto .check => p.sre.run.isNone && p.mck.run.isSome && p.sup.verbRun.isNone
  | some .searchRun, .auto .check => false
  | some .searchRun, .auto _ => p.sre.run.isSome && p.mck.run.isNone && p.sup.verbRun.isNone
  | some (.verb .check _), .manual (some .check) => p.sre.run.isNone && p.mck.run.isSome && p.sup.verbRun.isNone
  | some (.verb v _), .manual (some w) =>
    v = w && p.sre.run.isNone && p.mck.run.isNone && p.sup.verbRun.map VerbRun.verb = some v
  | _, _ => false

/-- The operations in flight on the ports, in port order. -/
def operations (p : Part) : List InFlight :=
  match p.spc.ports with
  | none => []
  | some t => Port.all.filterMap fun port => (t.get port).op

/-- The loader works for the holder of the slot: its plan is that of the run or verb that waits for it (R100). -/
def loaderWorks (p : Part) : Bool :=
  match p.ldr.image, p.ldr.plan with
  | .partly, some plan =>
    plan.cursor.isSome &&
      (match plan.requester with
        | .search => p.sre.run.map SearchRun.stage = some .loading
        | .boot =>
          match p.sup.verbRun with
          | some (.start true _ _ _ _ .loading) => true
          | _ => false
        | .stage =>
          match p.sup.verbRun with
          | some (.start false _ _ _ _ .loading) => true
          | _ => false)
  | _, _ => false

/-- The requester of a port operation is what runs. -/
def requesterRuns (p : Part) : Requester → Bool
  | .search =>
    match p.sre.run.map SearchRun.stage with
    | some .probing | some (.block0 _) => true
    | _ => false
  | .manualStart =>
    match p.sup.verbRun with
    | some (.start _ _ _ _ _ .probing) | some (.start _ _ _ _ _ (.block0 _)) => true
    | _ => false
  | .loader => loaderWorks p
  | .probeVerb =>
    match p.sup.verbRun with
    | some (.probe ..) => true
    | _ => false
  | .volumeVerb =>
    match p.sup.verbRun with
    | some (.volume ..) => true
    | _ => false

/-- The requester of a memory transaction is what runs. -/
def txnRequesterRuns (p : Part) : TxnRequester → Bool
  | .checker => p.mck.run.isSome
  | .loader => loaderWorks p
  | .peek =>
    match p.sup.verbRun with
    | some (.peek ..) => true
    | _ => false
  | .poke =>
    match p.sup.verbRun with
    | some (.poke ..) => true
    | _ => false

/-- At most one port operation or memory transaction is in flight, and the holder of the slot waits for it (R2, R74, R137). -/
def requestsSound (p : Part) : Bool :=
  match p.mmp.txn, operations p with
  | none, [] => !p.sup.abortPending
  | none, [f] => requesterRuns p f.requester && !p.sup.abortPending
  | some t, [] => txnRequesterRuns p t.requester
  | _, _ => false

/-- The image state and the load plan agree (R98, R100). -/
def imageSound (p : Part) : Bool :=
  match p.ldr.image, p.ldr.plan with
  | .nothing, none => true
  | .partly, some _ => true
  | .staged, some plan => plan.cursor.isNone
  | .released, some plan => plan.cursor.isNone
  | _, _ => false

/-- The target runs in TARGET-RUN alone: TRESET is freed exactly there, with the image RELEASED and the released-candidate record
present in the phase that the mode shows; held, there is no record, no window and no target line (R116, R117, R184). -/
def releaseSound (p : Part) : Bool :=
  match p.rlu.treset, p.rlu.released with
  | .freed, some r =>
    p.sup.mode = .targetRun r.phase && p.ldr.image = .released && p.tgt.isOpen &&
      (p.rlu.windowTimer.isNone || r.phase = .confirmWait)
  | .asserted, none =>
    p.ldr.image ≠ .released && p.rlu.windowTimer.isNone && !p.tgt.isOpen &&
      (match p.sup.mode with
        | .targetRun _ => false
        | _ => true)
  | _, _ => false

/-- A question, its timer and a round wait belong to a search run that stands in them (R49, R52). -/
def waitsSound (p : Part) : Bool :=
  (p.sre.question.isNone || p.sre.run.map SearchRun.stage = some .question) &&
    (p.sre.questionTimer.isNone || p.sre.question.isSome) &&
    (p.sre.waitTimer.isNone || p.sre.run.map SearchRun.stage = some .waiting)

/-- The slot, what is in progress, and the target's reset agree with the mode. -/
def slotSound (p : Part) : Bool :=
  holderSound p && requestsSound p && imageSound p && releaseSound p && waitsSound p

/-- The transaction in flight is one the memory port takes: word-aligned, in the map, no write into a PRESERVE region, and the
target held (R75). -/
def portSound (p : Part) : Prop := ∀ t, p.mmp.txn = some t → judgeTxn t.kind t.address p = none

/-! ### Words of the statements -/

/-- Every step keeps a condition on the part. -/
def KeptByEveryStep (inv : Part → Prop) : Prop := ∀ s t : State, inv s.toPart → step s = .next t → inv t.toPart

/-- The command has a next state: this part, with the queue of waiting commands as it was. -/
def Yields (c : Instr) (s : State) (p : Part) : Prop := exec c s = .next { s with toPart := p }

/-- The command has a next state of which this holds, with the queue of waiting commands as it was. -/
def YieldsSome (c : Instr) (s : State) (holds : Part → Prop) : Prop := ∃ p, Yields c s p ∧ holds p

/-- No console line and no reply waits, so that RLN takes a console line when it arrives (R173). -/
def consoleQuiet (p : Part) : Prop := p.con.lines = [] ∧ p.con.replies = []

/-- A console request is taken as it arrives, and SUP judges it by mode: not in INIT, and no restart pending (R139, R152). -/
def requestTaken (p : Part) : Prop := consoleQuiet p ∧ p.sup.mode ≠ .init ∧ p.sup.restartPending = false

/-- The mode is MANUAL, in either phase (R135). -/
def inManual (p : Part) : Prop := ∃ b, p.sup.mode = .manual b

/-- A target request is taken as it arrives: the line open and accepting, nothing waiting (R174). -/
def targetTaken (p : Part) : Prop :=
  p.tgt.isOpen = true ∧ p.tgt.accepting = true ∧ p.tgt.lines = [] ∧ p.tgt.queue = []

/-- The console after a reply with nothing waiting ahead of it: a free transmitter begins it, behind a busy one it waits
(R173, R182). -/
def Console.answered (i : ConsoleItem) (c : Console) : Console :=
  match c.tx with
  | none => { c with tx := some i }
  | some _ => { c with replies := [i] }

/-- The part after a console reply with nothing waiting ahead of it. -/
def answers (r : Record) (p : Part) : Part := { p with con := p.con.answered { record := some r } }

/-- The part after a console reply behind the record being sent and whatever replies wait (R173, R182). -/
def answersBehind (r : Record) (p : Part) : Part :=
  { p with con := { p.con with replies := p.con.replies ++ [{ record := some r }] } }

/-- The part after "+000" on the console. -/
def answersOk (tag : Option Tag) (p : Part) : Part := answers (accepted 0 tag []) p

/-- The part after a refusal on the console. -/
def refuses (code : Nat) (tag : Option Tag) (p : Part) : Part := answers (refusal code tag) p

/-- The target line after a record with nothing waiting ahead of it (R185). -/
def Target.answered (i : TargetItem) (t : Target) : Target :=
  match t.tx with
  | none => { t with tx := some i }
  | some _ => { t with queue := [i] }

/-- The part after a target-line reply with nothing waiting ahead of it. -/
def targetAnswers (r : Record) (after : AfterTarget) (p : Part) : Part :=
  { p with tgt := p.tgt.answered { record := r, after := after } }

/-- The slot empty and the mode MANUAL IDLE, with no run tag (R136, R137). -/
def slotGivenBack (p : Part) : Part :=
  { p with sup :=
    { p.sup with mode := .manual none, slot := none, runTag := none, abortPending := false, verbRun := none } }

/-- The slot held by a verb in MANUAL BUSY, with what the verb is doing (R142, R143). -/
def slotTaken (v : SlotVerb) (tag : Option Tag) (run : Option VerbRun) (p : Part) : Part :=
  { p with sup := { p.sup with mode := .manual (some v), slot := some (.verb v tag), verbRun := run } }

/-- A transaction in flight on the memory port (R74). -/
def inFlight (kind : TxnKind) (a : Nat) (rq : TxnRequester) (p : Part) : Part :=
  { p with mmp := { p.mmp with txn := some ⟨kind, a, rq⟩ } }

/-- The part with an attempt-log record appended as the newest of at most 32, numbered and counted on (R56). -/
def logged (f : AttemptFields) (o : AttemptOutcome) (detail : Option Nat) (id : Option Word32) (s : Sre) : Sre :=
  { s with
    log := pushBounded Config.logCapacity s.log ⟨s.nextSeq, f, o, detail, id⟩
    nextSeq := nextSequence s.nextSeq }

/-- The part with an attempt-log record appended and its notice 302 raised (R56, R57). -/
def records (tag : Option Tag) (f : AttemptFields) (o : AttemptOutcome) (detail : Option Nat) (id : Option Word32)
    (p : Part) : Part :=
  raise 302 tag (AttemptRecord.textFields ⟨p.sre.nextSeq, f, o, detail, id⟩) { p with sre := logged f o detail id p.sre }

/-- Some region of the map holds an address (R66, R67). -/
def mapped (map : Eight (Option Region)) (a : Nat) : Prop := ∃ i r, map.get i = some r ∧ r.holds a = true

/-- The entry with a PROBE's exchange begun, its timer running except on a LINK port, whose request frame goes out first (R6,
R18). -/
def probing (e : PortEntry) (unit : Nat) (rq : Requester) : PortEntry :=
  { e with
    state := .busy
    op := some
      { op := .probe, unit := unit, requester := rq
        timer := if e.kind = .link then none else some e.kind.timeoutMs
        frame := if e.kind = .link then linkRequest 0x01 unit 0 else []
        received := [] } }

/-- The entry with an exchange of a READ begun, `made` exchanges of it having ended before (R6, R9, R18). -/
def reading (e : PortEntry) (unit block retries made : Nat) (rq : Requester) : PortEntry :=
  { e with
    state := .busy
    op := some
      { op := .read block retries made, unit := unit, requester := rq
        timer := if e.kind = .link then none else some e.kind.timeoutMs
        frame := if e.kind = .link then linkRequest 0x02 unit block else []
        received := [] } }

/-- A PROBE of the unit makes an exchange (R7). -/
def reachable (e : PortEntry) (unit : Nat) : Prop :=
  unit < e.kind.units ∧ e.state ≠ .fault ∧ (e.kind = .card → e.cardPresent = true)

/-- A READ of the block makes an exchange (R8). -/
def readable (e : PortEntry) (unit block : Nat) : Prop :=
  reachable e unit ∧ ∃ c, e.units[unit]? = some ⟨.present, .ready, some c⟩ ∧ block < c

/-- The entry after an operation that has ended without a FAULT (R6). -/
def portFreed (e : PortEntry) (count unit : Nat) (r : UnitRecord) : PortEntry :=
  { e with count := count, state := .idle, op := none, units := e.units.set unit r }

/-- The fixed places of the arguments of CHECK: kind, region or ALL, passes, STOP; what is left out is ALL and 1 (R86). -/
def checkForm (as : List Arg) (kind : CheckKind) (scope : CheckScope) (passes : Nat) (stop : Bool) : Prop :=
  ∃ k, findWord checkKindWords k = some kind ∧
    ((as = [.word k] ∧ scope = .all ∧ passes = 1 ∧ stop = false) ∨
      ∃ r, ((r = .word "ALL".toList ∧ scope = .all) ∨ ∃ n, r = .num n ∧ scope = .index n) ∧
        ((as = [.word k, r] ∧ passes = 1 ∧ stop = false) ∨ (as = [.word k, r, .num passes] ∧ stop = false) ∨
          (as = [.word k, r, .num passes, .word "STOP".toList] ∧ stop = true)))

/-- The console after the record being sent has left: the oldest reply, else the question, else the oldest notice, with
"*199 n" put behind the notices after a loss (R180, R182). -/
def Console.nextSent (c : Console) : Console :=
  match c.replies, c.question, c.notices with
  | r :: rest, _, _ => { c with tx := some r, replies := rest }
  | [], some q, _ => { c with tx := some { record := some q }, question := none }
  | [], none, n :: rest =>
    { c with
      tx := some { record := some n }
      notices := if c.lost = 0 then rest else rest ++ [⟨.notice, 199, none, [.num c.lost], []⟩]
      lost := 0 }
  | [], none, [] => { c with tx := none }

/-- The console at a RESTART: a pending question is withdrawn with notice 411, which carries the tag of its run, no reply waits any
longer for a RESTART to follow it, and everything else is kept (R55, R187, R189). -/
def restartedConsole (p : Part) : Console :=
  let c :=
    match p.sre.question with
    | none => p.con
    | some q =>
      (raise 411 (p.sre.run.bind SearchRun.tag) [.num q.id] { p with con := { p.con with question := none } }).con
  { c with
    tx := c.tx.map fun i => { i with restart := false }
    replies := c.replies.map fun i => { i with restart := false } }

/-- The part that RESTART leaves, with its console (R4, R65, R77, R96, R112, R134, R135, R138, R168, R186, R187). -/
def restarted (con : Console) (p : Part) : Part :=
  { p with
    spc := { p.spc with ports := some (freshPorts p.sst.settings.kinds p.spc.sense) }
    sre := { p.sre with run := none, spent := [], releaseCount := 0, question := none, questionTimer := none, waitTimer := none }
    mmp := { p.mmp with txn := none }
    mck := { p.mck with run := none }
    ldr := { image := .nothing, plan := none, handoff := none }
    rlu := { treset := .asserted, released := none, windowTimer := none }
    sup :=
      { mode := .init, cause := .restart, breakFlag := false, restartPending := false, slot := none, runTag := none,
        initTimer := true, settled := true, abortPending := false, verbRun := none }
    con := con
    tgt := { closedTarget with rate := p.tgt.rate } }

/-- Commands run one after another. -/
def runCommands : List Instr → State → Host.Outcome State Fault Refusal
  | [], s => .next s
  | c :: cs, s =>
    match exec c s with
    | .next t => runCommands cs t
    | .fault f => .fault f
    | .refused r => .refused r

/-- The commands of bytes received on a line, ended by 0D (R170, R171). -/
def typedLine (l : Line) (bytes : List Byte) : List Instr := (bytes ++ [0x0D]).map fun b => .receivedByte l b

/-- A verb that lists state: with no argument its multi-line reply, with an argument 111, and nothing else changes. -/
def Lists (verb : Option Tag → List Text → Instr) (lines : List (List Field)) (s : State) : Prop :=
  ∀ (tag : Option Tag) (args : List Text),
    (args = [] → Yields (verb tag args) s (answers (multiLine tag lines) s.toPart)) ∧
      ∀ as, classifyWords args = .inr as → as ≠ [] → Yields (verb tag args) s (refuses 111 tag s.toPart)

/-! ### The course of a load (R101 to R110) -/

/-- The load plan with its cursor at a point of the load (R100). -/
def planAt (plan : LoadPlan) (cur : LoadCursor) (p : Part) : Part :=
  { p with ldr := { p.ldr with plan := some { plan with cursor := some cur } } }

/-- The writes of a segment begin: the WRITE of a FILL segment's first word, the READ of a DATA segment's first block (R102,
R103). -/
def segmentBegins (plan : LoadPlan) (g : Segment) (p t : Part) : Prop :=
  (g.source = none → judgeTxn (.write 0) g.target p = none →
    t = inFlight (.write 0) g.target .loader (planAt plan ⟨.write, g.index, 0, g.target, 0xFFFFFFFF, [], []⟩ p)) ∧
  ∀ b e, g.source = some b → entryOf p plan.image.port = some e → readable e plan.image.unit b →
    t = setEntry plan.image.port (reading e plan.image.unit b p.sst.settings.retries 0 .loader)
      (planAt plan ⟨.write, g.index, b, g.target, 0xFFFFFFFF, [], []⟩ p)

/-- A load begins: any earlier plan and handoff record dropped, PARTIAL, notice 700, segment 1 (R101). -/
def loadBegins (image : Image) (fields : AttemptFields) (reason : BootReason) (rq : LoadRequester) (tag : Option Tag)
    (p t : Part) : Prop :=
  ∀ g plan, segmentAt 1 image = some g →
    plan = { image := image, fields := fields, reason := reason, requester := rq, tag := tag, verify := p.sst.settings.verify,
             cursor := none, written := [] } →
    segmentBegins plan g
      (raise 700 tag [.num image.port.num, .num image.unit, .num image.imageId.toNat]
        { p with ldr := { image := .partly, plan := some plan, handoff := none } }) t

/-- A release with what it leaves: image RELEASED, count raised, TRESET freed with the released-candidate record, RELEASED record and
notice 710, the target line open at TGTRATE sending the START record, the slot empty (R117 to R120, R184). -/
def releases (kind : ReleaseKind) (tag : Option Tag) (plan : LoadPlan) (p t : Part) : Prop :=
  ∀ key window phase, key = ⟨plan.fields.port, plan.fields.unit, plan.image.imageId⟩ →
    (plan.image.confirm = 0 ∧ window = (if p.sst.settings.confirm = 0 then none else some p.sst.settings.confirm)) ∨
      (plan.image.confirm = 0xFF ∧ window = none) ∨
      (plan.image.confirm ≠ 0 ∧ plan.image.confirm ≠ 0xFF ∧ window = some plan.image.confirm) →
    phase = (match window with | some _ => .confirmWait | none => .running) →
    t.ldr = { p.ldr with image := .released } ∧
    t.sre = logged plan.fields .released none (some plan.image.imageId)
      { p.sre with releaseCount := if p.sre.releaseCount < 0xFF then p.sre.releaseCount + 1 else p.sre.releaseCount } ∧
    t.rlu =
      { treset := .freed
        released := some
          { key := key, fields := plan.fields, kind := kind, tag := tag, entry := plan.image.entry,
            handoff := plan.image.handoff, window := window, phase := phase }
        windowTimer := window } ∧
    t.sup = { p.sup with mode := .targetRun phase, slot := none, verbRun := none } ∧
    t.tgt =
      { isOpen := true, rate := p.sst.settings.tgtrate, waitMarking := false, line := ⟨[], .nothing⟩, lines := [],
        accepting := true, queue := []
        tx := some { record := ⟨.notice, 740, none, [.num plan.image.entry, .num (plan.image.handoff.getD 0)], []⟩ } } ∧
    t.con =
      (raise 710 tag [.num key.port.num, .num key.unit, .num key.imageId.toNat]
        (records tag plan.fields .released none (some plan.image.imageId) p)).con ∧
    t.spc = p.spc ∧ t.mmp = p.mmp ∧ t.mck = p.mck ∧ t.sst = p.sst

/-- A search run that is over, its timers stopped (R43). -/
def runOver (p : Part) : Part := { p with sre := { p.sre with run := none, waitTimer := none, questionTimer := none } }

/-- A load completes: STAGED, the LOADED record, and for a STAGE notice 701 with the slot given back, for a BOOT the manual release,
for a search the automatic release that ends the run (R47, R109, R131). -/
def loadCompletes (plan : LoadPlan) (p t : Part) : Prop :=
  ∀ done : Part,
    done = records plan.tag plan.fields .loaded none (some plan.image.imageId)
      { p with ldr := { p.ldr with image := .staged, plan := some { plan with cursor := none } } } →
    (plan.requester = .stage →
      t = slotGivenBack
        (raise 701 plan.tag [.num plan.image.port.num, .num plan.image.unit, .num plan.image.imageId.toNat] done)) ∧
    (plan.requester = .boot → releases .manual plan.tag plan done t) ∧
    ∀ r, plan.requester = .search → p.sre.run = some r → releases .automatic r.tag plan (runOver done) t

/-- The HANDOFF stage: the WRITE of the handoff record's first word when the image names an address, otherwise the end of the load
(R108, R109). -/
def handoffBegins (plan : LoadPlan) (p t : Part) : Prop :=
  (plan.image.handoff = none → loadCompletes plan p t) ∧
  ∀ h, plan.image.handoff = some h → judgeTxn (.write (bytesWord (handoffRecord plan p))) h p = none →
    t = inFlight (.write (bytesWord (handoffRecord plan p))) h .loader
      (planAt plan ⟨.handoff, 0, 0, h, 0, handoffRecord plan p, handoffRecord plan p⟩ p)

/-- The read-back of the first DATA segment after index k, or after the last of them the HANDOFF stage (R107). -/
def readBackFollows (k : Nat) (plan : LoadPlan) (p t : Part) : Prop :=
  (∀ past g rest b, plan.image.segments = past ++ g :: rest → (∀ x ∈ past, x.index ≤ k ∨ x.source = none) → k < g.index →
    g.source = some b → judgeTxn .read g.target p = none →
    t = inFlight .read g.target .loader (planAt plan ⟨.verify, g.index, 0, g.target, 0xFFFFFFFF, [], []⟩ p)) ∧
  ((∀ x ∈ plan.image.segments, x.index ≤ k ∨ x.source = none) → handoffBegins plan p t)

/-- What follows the writes of segment k: the next segment, and after the last the read-back when VERIFY is ON, otherwise the
HANDOFF stage (R101, R107, R108). -/
def segmentFollows (k : Nat) (plan : LoadPlan) (p t : Part) : Prop :=
  (∀ g, segmentAt (k + 1) plan.image = some g → g.index = k + 1 → segmentBegins plan g p t) ∧
  (segmentAt (k + 1) plan.image = none →
    (plan.verify = true → readBackFollows 0 plan p t) ∧ (plan.verify = false → handoffBegins plan p t))

/-! ### The course of a search (R44 to R49, R52) -/

/-- The units of a round in the order of the walk, each with its entry's number and its entry (R44). -/
def roundVisits (order : List BootEntry) : List (Nat × BootEntry × Nat) :=
  [false, true].flatMap fun resort =>
    (order.mapIdx fun k e => (k + 1, e)).flatMap fun x =>
      if x.2.lastResort = resort then (List.range (x.2.last + 1 - x.2.first)).map fun j => (x.1, x.2, x.2.first + j) else []

/-- A search run with the phase that its mode shows (R51). -/
def runStands (r : SearchRun) (phase : AutoPhase) (p : Part) : Part :=
  { p with sre := { p.sre with run := some r }, sup := { p.sup with mode := .auto phase } }

/-- The outcomes after which a unit is tried again (R48). -/
def transientOutcomes : List AttemptOutcome := [.notReady, .readFault, .mediaLost]

/-- The end of a round without a release: notice 301, then at MAXROUNDS notice 303 and the end of the run, otherwise the round wait
(R49). -/
def roundEnds (r : SearchRun) (p t : Part) : Prop :=
  ∀ maxrounds, maxrounds = p.sst.settings.maxrounds →
    (maxrounds ≠ 0 → maxrounds ≤ r.round →
      t = slotGivenBack (runOver (raise 303 r.tag [.num r.round] (raise 301 r.tag [.num r.round] p)))) ∧
    (maxrounds = 0 ∨ r.round < maxrounds →
      t = runStands { r with entry := 0, stage := .waiting } .wait
        { raise 301 r.tag [.num r.round] p with
          sre :=
            { p.sre with
              waitTimer := some (if r.round ≤ 8 then p.sst.settings.shortwait else p.sst.settings.longwait) } })

/-- What follows an attempt that has left its record: one more try used; after a transient outcome with tries left the same unit is
probed again, otherwise the next unit of the walk, or with none left the round ends (R44, R48). The unit to be probed is one that
an exchange reaches. -/
def walkGoesOn (o : AttemptOutcome) (p t : Part) : Prop :=
  ∀ (r counted : SearchRun) (e : BootEntry), p.sre.run = some r → 1 ≤ r.entry → p.sst.settings.order[r.entry - 1]? = some e →
    counted = { r with triesUsed := r.triesUsed + 1 } →
    (o ∈ transientOutcomes → r.triesUsed + 1 < e.tries → ∀ pe, entryOf p e.port = some pe → reachable pe r.unit →
      t = setEntry e.port (probing pe r.unit .search) (runStands { counted with stage := .probing } .search p)) ∧
    (o ∉ transientOutcomes ∨ e.tries ≤ r.triesUsed + 1 →
      ∀ past rest, roundVisits p.sst.settings.order = past ++ (r.entry, e, r.unit) :: rest →
        (∀ x ∈ past, x.1 ≠ r.entry ∨ x.2.2 ≠ r.unit) →
        (∀ k e' u after pe, rest = (k, e', u) :: after → 1 ≤ e'.tries → entryOf p e'.port = some pe → reachable pe u →
          t = setEntry e'.port (probing pe u .search)
            (runStands
              { counted with
                pass := if e'.lastResort then .lastResort else .normal
                entry := k
                unit := u
                triesUsed := 0
                stage := .probing } .search p)) ∧
        (rest = [] → roundEnds counted p t))

/-- An attempt of a search ends with an outcome: its record, then the walk goes on (R45 to R48, R56). -/
def attemptEnds (o : AttemptOutcome) (detail : Option Nat) (id : Option Word32) (p t : Part) : Prop :=
  ∀ (r : SearchRun) (e : BootEntry), p.sre.run = some r → p.sst.settings.order[r.entry - 1]? = some e → 1 ≤ r.entry →
    walkGoesOn o (records r.tag ⟨r.round, r.entry, e.port, r.unit⟩ o detail id p) t

/-- The outcomes and details of the classifications that end an attempt under every policy (R46). -/
def classOutcomes (c : Classification) : List (VolumeClass × AttemptOutcome × Option Nat) :=
  [(.blank, .blank, none), (.dataOnly, .dataOnly, none), (.damaged, .damaged, none),
    (.mapConflict, .mapConflict, c.region.map Idx.num), (.memoryDefective, .memoryDefective, c.region.map Idx.num)]

/-- The outcomes and details of the READ results of block 0 that are not DATA (R45, R114). -/
def block0Outcomes : List ((Nat → ReadResult) × AttemptOutcome × (Nat → Option Nat)) :=
  [(.notReady, .notReady, fun _ => none), (.readFault, .readFault, some), (.mediaLost, .mediaLost, some),
    (.outOfRange, .damaged, fun _ => none)]

/-- A load fails: its record with the detail, notice 702, and the slot given back, or for a search the walk goes on (R48, R110). -/
def loadFails (plan : LoadPlan) (o : AttemptOutcome) (detail : Nat) (p t : Part) : Prop :=
  ∀ failed : Part,
    failed = raise 702 plan.tag
      [.num plan.image.port.num, .num plan.image.unit, .word o.name, .word "DETAIL", .num detail]
      (records plan.tag plan.fields o (some detail) (some plan.image.imageId) p) →
    (plan.requester ≠ .search → t = slotGivenBack failed) ∧ (plan.requester = .search → walkGoesOn o failed t)

/-- What the classification of block 0 gives a search attempt: an outcome, a question under policy ASK, or for a candidate SPENT,
HALTED at the budget, or its load (R46, R47, R52). -/
def classifiedForSearch (block : List Byte) (capacity : Nat) (c : Classification) (p t : Part) : Prop :=
  ∀ (r : SearchRun) (e : BootEntry) (fields : AttemptFields), p.sre.run = some r → 1 ≤ r.entry →
    p.sst.settings.order[r.entry - 1]? = some e → fields = ⟨r.round, r.entry, e.port, r.unit⟩ →
    (∀ o detail, (c.volume, o, detail) ∈ classOutcomes c → attemptEnds o detail c.imageId p t) ∧
    (c.volume = .unknown →
      (e.policy = .skip → attemptEnds .unknownSkipped none c.imageId p t) ∧
      ∀ (id : Nat) (question : Record), e.policy = .ask → p.con.question = none → (p.con.tx = none → p.con.replies = []) →
        id = (if p.sre.questionId = 0xFF then 1 else p.sre.questionId + 1) →
        question = ⟨.question, 410, none, [.num id, .word "UNKNOWN", .num e.port.num, .num r.unit], []⟩ →
        t = { p with
          sre :=
            { p.sre with
              questionId := id
              question := some ⟨id, e.port, r.unit⟩
              questionTimer := if p.sst.settings.askwait = 0 then none else some p.sst.settings.askwait
              run := some { r with held := some ⟨block, capacity, c.imageId⟩, stage := .question } }
          con :=
            (match p.con.tx with
              | none => { p.con with tx := some { record := some question } }
              | some _ => { p.con with question := some question })
          sup := { p.sup with mode := .auto .question } }) ∧
    ∀ (image : Image) (key : CandidateKey), c.volume = .bootable → c.image = some image →
      key = ⟨image.port, image.unit, image.imageId⟩ →
      (key ∈ p.sre.spent → attemptEnds .spent none (some image.imageId) p t) ∧
      (key ∉ p.sre.spent →
        (p.sst.settings.budget ≤ p.sre.releaseCount →
          t = raise 802 p.sup.runTag [.word "BUDGET"]
            { runOver (records r.tag fields .budget none (some image.imageId) p) with
              sup :=
                { p.sup with
                  mode := .halted .budget, slot := none, runTag := none, abortPending := false, verbRun := none }
              rlu := { p.rlu with treset := .asserted } }) ∧
        (p.sre.releaseCount < p.sst.settings.budget →
          loadBegins image fields (match r.origin with | .fallback => .fallback | _ => .auto) .search r.tag
            (runStands { r with stage := .loading } .load p) t))

/-! ### Results of port operations (R21, R35, R45, R105, R114) -/

/-- The lines of a VOLUME reply from a classification (R36). -/
def volumeReply (port : Port) (unit : Nat) (c : Classification) : List (List Field) :=
  ([.num port.num, .num unit, .word c.volume.name] ++
      (match c.check with | some n => [.word "CHECK", .word n.name] | none => []) ++
      (match c.segment with | some k => [.word "SEG", .num k] | none => []) ++
      (if c.handoffMark then [.word "HANDOFF"] else []) ++
      (match c.region with | some i => [.word "REGION", .num i.num] | none => []) ++
      (match c.imageId with | some i => [.word "ID", .num i.toNat] | none => [])) ::
    (match c.volume, c.image with
      | .bootable, some i =>
        [.word "ENTRY", .num i.entry, .word "HANDOFF", .num (i.handoff.getD 0), .word "CONFIRM", .num i.confirm,
            .word "LABEL", .label (i.label.getD [])] ::
          i.segments.map fun g =>
            [.word "SEG", .num g.index, .num g.target, .num g.length] ++
              (match g.source with
                | some b => [.word "DATA", .num b, .num (g.crc.getD 0).toNat]
                | none => [.word "FILL"]) ++ [.word "REGION", .num g.region.num]
      | _, _ => [])

/-- A BOOT or STAGE ends with an outcome of its steps 1 to 4: its record, notice 304, the slot given back (R114). -/
def startEnds (tag : Option Tag) (port : Port) (unit : Nat) (o : AttemptOutcome) (detail : Option Nat) (id : Option Word32)
    (p t : Part) : Prop :=
  t = slotGivenBack (raise 304 tag [.num port.num, .num unit, .word o.name] (records tag ⟨0, 0, port, unit⟩ o detail id p))

/-- What a PROBE result gives its requester: the reply of PROBE or VOLUME, the outcome of an attempt, or after READY the READ of
block 0 (R21, R35, R45, R114). The loader makes no PROBE. -/
def probeDelivered (rq : Requester) (port : Port) (unit : Nat) (r : ProbeResult) (p t : Part) : Prop :=
  (∀ tag, rq = .probeVerb → p.sup.verbRun = some (.probe tag port unit) → p.con.replies = [] →
    t = slotGivenBack (answers
      (accepted 0 tag ([.num port.num, .num unit] ++
        (match r with
          | .absent => [.word "ABSENT"]
          | .notReady => [.word "NOT-READY"]
          | .ready c => [.word "READY", .num c]
          | .timeout => [.word "TIMEOUT"]))) p)) ∧
  (∀ tag, rq = .volumeVerb → p.sup.verbRun = some (.volume tag port unit none) →
    (∀ word, (r, word) ∈ [(.absent, "NOT-PRESENT"), (.notReady, "NOT-READY"), (.timeout, "NOT-READY")] → p.con.replies = [] →
      t = slotGivenBack (answers (multiLine tag [[.num port.num, .num unit, .word word]]) p)) ∧
    ∀ c e, r = .ready c → entryOf p port = some e → readable e unit 0 →
      t = setEntry port (reading e unit 0 p.sst.settings.retries 0 .volumeVerb)
        { p with sup := { p.sup with verbRun := some (.volume tag port unit (some c)) } }) ∧
  (∀ boot tag raw, rq = .manualStart → p.sup.verbRun = some (.start boot tag port unit raw .probing) →
    (∀ o, (r, o) ∈ [(.absent, .notPresent), (.notReady, .notReady), (.timeout, .notReady)] →
      startEnds tag port unit o none none p t) ∧
    ∀ c e, r = .ready c → entryOf p port = some e → readable e unit 0 →
      t = setEntry port (reading e unit 0 p.sst.settings.retries 0 .manualStart)
        { p with sup := { p.sup with verbRun := some (.start boot tag port unit raw (.block0 c)) } }) ∧
  ∀ run b, rq = .search → p.sre.run = some run → run.stage = .probing → 1 ≤ run.entry →
    p.sst.settings.order[run.entry - 1]? = some b → b.port = port → run.unit = unit →
    (∀ o, (r, o) ∈ [(.absent, .notPresent), (.notReady, .notReady), (.timeout, .notReady)] →
      attemptEnds o none none p t) ∧
    ∀ c e, r = .ready c → entryOf p port = some e → readable e unit 0 →
      t = setEntry port (reading e unit 0 p.sst.settings.retries 0 .search)
        { p with sre := { p.sre with run := some { run with stage := .block0 c } } }

/-- What a READ result gives its requester: the reply of VOLUME, the outcome of an attempt, what the classification of block 0 leads
to, or in a load the WRITE of the block's first word or the end of the load (R35, R45, R46, R103, R105, R114, R131). -/
def readDelivered (rq : Requester) (port : Port) (unit : Nat) (r : ReadResult) (p t : Part) : Prop :=
  (∀ tag capacity, rq = .volumeVerb → p.sup.verbRun = some (.volume tag port unit (some capacity)) → p.con.replies = [] →
    (∀ block, r = .data block →
      t = slotGivenBack (answers (multiLine tag (volumeReply port unit (classifyNow block capacity port unit false p))) p)) ∧
    ∀ b fields, (r, fields) ∈
        [(.readFault b, [.word "READ-FAULT", .word "BLOCK", .num b]), (.mediaLost b, [.word "MEDIA-LOST", .word "BLOCK", .num b]),
          (.notReady b, [.word "NOT-READY"]), (.outOfRange b, [.word "DAMAGED", .word "CHECK", .word "CAPACITY"])] →
      t = slotGivenBack (answers (multiLine tag [[.num port.num, .num unit] ++ fields]) p)) ∧
  (∀ boot tag raw capacity, rq = .manualStart → p.sup.verbRun = some (.start boot tag port unit raw (.block0 capacity)) →
    (∀ b x, x ∈ block0Outcomes → r = x.1 b → startEnds tag port unit x.2.1 (x.2.2 b) none p t) ∧
    ∀ block c, r = .data block → c = classifyNow block capacity port unit raw p →
      (∀ o detail, (c.volume, o, detail) ∈ (.unknown, .unknownSkipped, none) :: classOutcomes c →
        startEnds tag port unit o detail c.imageId p t) ∧
      ∀ (image : Image) (key : CandidateKey), c.volume = .bootable → c.image = some image →
        key = ⟨image.port, image.unit, image.imageId⟩ →
        (boot = true → key ∈ p.sre.spent →
          t = slotGivenBack (raise 305 tag [.num image.port.num, .num image.unit, .num image.imageId.toNat]
            (records tag ⟨0, 0, port, unit⟩ .spent none (some image.imageId) p))) ∧
        (boot = false ∨ key ∉ p.sre.spent →
          loadBegins image ⟨0, 0, port, unit⟩ (if boot then .manualBoot else .manualGo) (if boot then .boot else .stage) tag
            { p with sup := { p.sup with verbRun := some (.start boot tag port unit raw .loading) } } t)) ∧
  (∀ run capacity e, rq = .search → p.sre.run = some run → run.stage = .block0 capacity → 1 ≤ run.entry →
    p.sst.settings.order[run.entry - 1]? = some e → e.port = port → run.unit = unit →
    (∀ b x, x ∈ block0Outcomes → r = x.1 b → attemptEnds x.2.1 (x.2.2 b) none p t) ∧
    ∀ block, r = .data block →
      classifiedForSearch block capacity (classifyNow block capacity port unit (decide (e.policy = .take)) p) p t) ∧
  ∀ plan cur g, rq = .loader → p.ldr.plan = some plan → plan.cursor = some cur → cur.stage = .write →
    segmentAt cur.segment plan.image = some g →
    (∀ block used, r = .data block → used = block.take (g.target + g.length - cur.address) →
      judgeTxn (.write (bytesWord used)) cur.address p = none →
      t = inFlight (.write (bytesWord used)) cur.address .loader
        (planAt plan { cur with block := cur.block + 1, buffer := used } p)) ∧
    ∀ b o detail, (r, o, detail) ∈
        [(.readFault b, .readFault, b), (.notReady b, .readFault, b), (.mediaLost b, .mediaLost, b),
          (.outOfRange b, .damaged, g.index)] →
      loadFails plan o detail p t

/-- The answers of FLASH, CARD and BLOCK devices to the exchange of a PROBE, with their results (R7, R14, R16, R17). -/
def probeAnswer (kind : PortKind) (port : Port) (c : Instr) (r : ProbeResult) : Prop :=
  (kind = .flash ∧ ∃ b0 b1 b2, c = .flashExchangeEnd port (.identify b0 b1 b2) ∧
    (((b0 = 0 ∧ b1 = 0 ∧ b2 = 0 ∨ b0 = 0xFF ∧ b1 = 0xFF ∧ b2 = 0xFF) ∧ r = .absent) ∨
      (0x10 ≤ b2.toNat ∧ b2.toNat ≤ 0x1F ∧ r = .ready (2 ^ b2.toNat / 512)) ∨
      (¬ (b0 = 0 ∧ b1 = 0 ∧ b2 = 0) ∧ ¬ (b0 = 0xFF ∧ b1 = 0xFF ∧ b2 = 0xFF) ∧ (b2.toNat < 0x10 ∨ 0x1F < b2.toNat) ∧
        r = .notReady))) ∨
  (kind = .card ∧
    ((∃ cap, c = .cardExchangeEnd port (.initialized cap) ∧ cap ≠ 0 ∧ r = .ready cap.toNat) ∨
      (c ∈ [.cardExchangeEnd port (.initialized 0), .cardExchangeEnd port .rejected,
          .cardExchangeEnd port .stillInitializing] ∧ r = .notReady))) ∨
  (kind = .block ∧
    ((∃ cap, c = .blockExchangeEnd port (.readyCapacity cap) ∧ cap ≠ 0 ∧ r = .ready cap.toNat) ∨
      (c = .blockExchangeEnd port .noUnit ∧ r = .absent) ∨
      (c ∈ [.blockExchangeEnd port (.readyCapacity 0), .blockExchangeEnd port .spinningUp,
          .blockExchangeEnd port .unitError, .blockExchangeEnd port .otherStatus] ∧ r = .notReady)))

/-- The unit record that the exchange of a PROBE leaves (R3). -/
def probedUnit (r : ProbeResult) (u : UnitRecord) : UnitRecord :=
  match r with
  | .absent => ⟨.absent, .notReady, none⟩
  | .ready c => ⟨.present, .ready, some c⟩
  | .notReady => ⟨.present, .notReady, none⟩
  | .timeout => ⟨u.presence, .notReady, none⟩

/-- The answers of FLASH, CARD and BLOCK devices that end a READ at once, with their results and the unit record they leave (R3, R9,
R14, R16, R17). -/
def readAnswer (kind : PortKind) (port : Port) (block : Nat) (c : Instr) (u : UnitRecord) (r : ReadResult) (v : UnitRecord) :
    Prop :=
  (∃ data, data.length = 512 ∧ r = .data data ∧ v = u ∧
    ((kind = .flash ∧ c = .flashExchangeEnd port (.block data false)) ∨
      (kind = .card ∧ c = .cardExchangeEnd port (.block data true)) ∨
      (kind = .block ∧ c = .blockExchangeEnd port (.readyBlock data)))) ∨
  (r = .notReady block ∧ v = ⟨u.presence, .notReady, none⟩ ∧
    ((kind = .card ∧ c = .cardExchangeEnd port .busyInitializing) ∨
      (kind = .block ∧ c = .blockExchangeEnd port .spinningUp))) ∨
  (r = .mediaLost block ∧ v = ⟨.unknown, .notReady, none⟩ ∧ kind = .block ∧ c = .blockExchangeEnd port .noUnit)

/-- The part with its port operation withdrawn, when one is in flight: the port IDLE, count and unit records kept (R10). -/
def withdrawn (p q : Part) : Prop :=
  (operations p = [] ∧ q = p) ∨
    ∃ port e f, entryOf p port = some e ∧ e.op = some f ∧ operations p = [f] ∧
      q = setEntry port { e with state := .idle, op := none } p

/-! ### The course of a check (R82 to R94) -/

/-- The words of a region that a check of a kind takes (R82). -/
def inWordSet (kind : CheckKind) (g : Region) (a : Nat) : Prop :=
  a % 4 = 0 ∧ g.base ≤ a ∧ a < g.base + g.size ∧
    (kind = .quick → a < g.base + 0x1000 ∨ g.base + g.size - 0x1000 ≤ a ∨ a % 0x1000 = 0)

/-- The transaction that a check makes in a phase on a word: phases 1 and 3 write the address and its complement, the others read
(R83, R84). -/
def checkWord (phase a : Nat) : TxnKind :=
  match phase with
  | 1 => .write (BitVec.ofNat 32 a)
  | 3 => .write (~~~BitVec.ofNat 32 a)
  | _ => .read

/-- The check run with the transaction of its current word in flight (R74, R83, R84). -/
def checks (r : CheckRun) (p : Part) : Part :=
  { inFlight (checkWord r.phase r.cursor) r.cursor .checker p with mck := { p.mck with run := some r } }

/-- The check of a region begins: effective kind, first phase, first word; before the run's first WRITE the loaded image is discarded
(R82, R89, R92). -/
def regionBegins (i : Idx) (r : CheckRun) (p t : Part) : Prop :=
  ∀ g, p.sst.settings.map.get i = some g → judgeTxn (checkWord (if g.preserve ∨ r.asked = .read then 0 else 1) g.base) g.base p = none →
    (g.preserve = true ∨ r.asked = .read →
      t = checks { r with current := i, effective := .read, phase := 0, cursor := g.base, firstRead := none } p) ∧
    (g.preserve = false → r.asked ≠ .read →
      t = checks
        { r with current := i, effective := r.asked, phase := 1, cursor := g.base, written := true, firstRead := none }
        (if r.written = false ∧ (p.ldr.image = .partly ∨ p.ldr.image = .staged) then
          { p with ldr := { p.ldr with image := .nothing, plan := none } } else p))

/-- INIT ends: notice 800, then MANUAL IDLE after a break or with AUTOSTART OFF, otherwise the automatic check with its notice 500 and
its first region when AUTOCHECK asks for one and a region carries CHECK, otherwise the search (R88, R139, R140). -/
def initEnds (p t : Part) : Prop :=
  ∀ started, started = raise 800 none [.word p.sup.cause.name, .word p.sst.source.name] p →
    (p.sup.breakFlag = true ∨ p.sst.settings.autostart = false → t = slotGivenBack started) ∧
    (p.sup.breakFlag = false → p.sst.settings.autostart = true →
      (∀ kind i rest, p.sst.settings.autocheck ≠ .nothing →
        kind = (if p.sst.settings.autocheck = .walk then CheckKind.walk else CheckKind.quick) →
        (Idx.all.filter fun j => ((p.sst.settings.map.get j).map Region.check).getD false) = i :: rest →
        regionBegins i
          { origin := .auto, tag := none, asked := kind, regions := i :: rest, passes := 1, stop := false, pass := 1, current := i,
            effective := kind, phase := 0, cursor := 0, written := false, marks := [], firstRead := none }
          { raise 500 none [.word kind.name, .word "AUTO", .num 1] started with
            mck := { run := none, defects := [], dropped := 0 }
            sup := { p.sup with mode := .auto .check, slot := some .automaticCheck } } t) ∧
      (p.sst.settings.autocheck = .nothing ∨ (∀ i g, p.sst.settings.map.get i = some g → g.check = false) →
        t = beginRun .start none started))

/-- What the end of the transaction of a run's current word shows: a defect, or none (R83, R84). -/
def checkFinds (r : CheckRun) (c : Instr) (d : Option Defect) : Prop :=
  (c = .responseTimeout ∧ d = some ⟨r.cursor, .noResponse, none, none, r.pass⟩) ∨
  ((∃ mrdy w, c = .memoryResponse mrdy true w) ∧ d = some ⟨r.cursor, .busError, none, none, r.pass⟩) ∨
  ∃ w, c = .memoryResponse true false w ∧
    ((r.effective = .read ∧ ∃ x, r.firstRead = some x ∧
        d = if w = x then none else some ⟨r.cursor, .unstable, none, some w, r.pass⟩) ∨
      (r.effective ≠ .read ∧ (r.phase = 1 ∨ r.phase = 3) ∧ d = none) ∨
      (r.effective ≠ .read ∧ ∃ x, (r.phase = 2 ∧ x = BitVec.ofNat 32 r.cursor ∨ r.phase = 4 ∧ x = ~~~BitVec.ofNat 32 r.cursor) ∧
        d = if w = x then none else some ⟨r.cursor, .mismatch, some x, some w, r.pass⟩))

/-- The run with its current region marked when a defect was found (R85, R90). -/
def marked (d : Option Defect) (r : CheckRun) : CheckRun :=
  match d with
  | none => r
  | some _ => { r with marks := if r.current ∈ r.marks then r.marks else r.marks ++ [r.current] }

/-- The defect list with a defect found, or counted when it holds 16 (R90). -/
def defectKept (d : Option Defect) (m : Mck) : Mck :=
  match d with
  | none => m
  | some x =>
    if m.defects.length < 16 then { m with defects := m.defects ++ [x] }
    else { m with dropped := if m.dropped < 0xFFFF then m.dropped + 1 else m.dropped }

/-- The end of a check run: a VERB run gives the slot back; after an AUTO run with a marked region under CHECKFAIL HALT the part is
HALTED with notice 802, and otherwise the search begins (R94). -/
def checkEnds (r : CheckRun) (p t : Part) : Prop :=
  ∀ ended : Part, ended = { p with mck := { p.mck with run := none } } →
    (r.origin = .verb → t = slotGivenBack ended) ∧
    (r.origin = .auto →
      (r.marks ≠ [] → p.sst.settings.checkfail = .halt →
        t = raise 802 p.sup.runTag [.word "CHECK"]
          { ended with
            sup :=
              { p.sup with mode := .halted .check, slot := none, runTag := none, abortPending := false, verbRun := none }
            rlu := { p.rlu with treset := .asserted } }) ∧
      (r.marks = [] ∨ p.sst.settings.checkfail = .carryOn → t = beginRun .start none ended))

/-- The end of a pass: notice 501, then the next pass at the first region, or after the last pass notice 502 and the end (R89,
R94). -/
def passEnds (r : CheckRun) (p t : Part) : Prop :=
  ∀ (total : Nat) (noted : Part), total = min 0xFFFF (p.mck.defects.length + p.mck.dropped) →
    noted = raise 501 r.tag [.num r.pass, .num total] p →
    (r.passes ≠ 0 → r.pass = r.passes →
      checkEnds r (raise 502 r.tag [.num r.pass, .num total] noted) t) ∧
    (r.passes = 0 ∨ r.pass ≠ r.passes → ∀ i rest, r.regions = i :: rest →
      regionBegins i { r with pass := if r.pass < 0xFFFF then r.pass + 1 else 0xFFFF } noted t)

/-- What follows a judged word: the next word of the word set, then the next phase, and after the last the region's health with the
next region of the list or the end of the pass (R82 to R84, R89, R91). -/
def checkGoesOn (r : CheckRun) (p t : Part) : Prop :=
  ∀ g, p.sst.settings.map.get r.current = some g → g.base % 0x1000 = 0 → g.size % 0x1000 = 0 →
    inWordSet r.effective g r.cursor → (r.effective = .read → r.phase = 0) →
    (r.effective ≠ .read → 1 ≤ r.phase ∧ r.phase ≤ 4 ∧ r.written = true) →
    (∀ a, inWordSet r.effective g a → r.cursor < a → (∀ b, inWordSet r.effective g b → r.cursor < b → a ≤ b) →
      judgeTxn (checkWord r.phase a) a p = none → t = checks { r with cursor := a, firstRead := none } p) ∧
    ((∀ b, inWordSet r.effective g b → b ≤ r.cursor) →
      (r.effective ≠ .read → r.phase < 4 → judgeTxn (checkWord (r.phase + 1) g.base) g.base p = none →
        t = checks { r with phase := r.phase + 1, cursor := g.base, firstRead := none } p) ∧
      (r.effective = .read ∨ 4 ≤ r.phase →
        ∀ (ended : Part), ended =
            { p with mmp :=
              { p.mmp with
                health := p.mmp.health.set r.current (if r.current ∈ r.marks then .defective else .good) } } →
          ∀ past rest, r.regions = past ++ r.current :: rest → r.current ∉ past →
            (∀ i later, rest = i :: later → regionBegins i r ended t) ∧ (rest = [] → passEnds r ended t)))

end Sys2Proof.Machine
end

