-- ==== Sys2Proof/WellFormed.lean ====
section
/-! DEFINITION. Well-formed commands: operands that the part's lines and ports can carry. A verb command is the request line
it stands for, so its words must be words of a line that the receiver keeps whole (R170, R176). -/

namespace Sys2Proof

open Sys2Proof.Machine (Verb lineWords joinText parseTag findWord consoleVerbs targetVerbs)

/-- A character of a word: printable, not a space, and not a letter that the receiver folds (R170, R176). -/
def wordChar (c : Char) : Bool := 0x21 ≤ c.toNat && c.toNat ≤ 0x7E && !(0x61 ≤ c.toNat && c.toNat ≤ 0x7A)

/-- A word of a request line. -/
def isWord (w : Text) : Bool := w ≠ [] && w.all wordChar

/-- The words of a line that the receiver keeps: each a word, together at most 80 characters with their spaces (R170). -/
def isLine (ws : List Text) : Bool := ws.all isWord && (joinText ws).length ≤ Config.lineLength

/-- The verb, tag and argument words of a verb command, with its line. -/
def Instr.verb? : Instr → Option (Line × Verb × Option Tag × List Text)
  | .abort t a => some (.console, .abort, t, a)
  | .answer t a => some (.console, .answer, t, a)
  | .boot t a => some (.console, .boot, t, a)
  | .check t a => some (.console, .check, t, a)
  | .defaults t a => some (.console, .defaults, t, a)
  | .defects t a => some (.console, .defects, t, a)
  | .get t a => some (.console, .get, t, a)
  | .go t a => some (.console, .go, t, a)
  | .hold t a => some (.console, .hold, t, a)
  | .log t a => some (.console, .log, t, a)
  | .mapPut t a => some (.console, .mapPut, t, a)
  | .mapDel t a => some (.console, .mapDel, t, a)
  | .mapList t a => some (.console, .mapList, t, a)
  | .orderPut t a => some (.console, .orderPut, t, a)
  | .orderDel t a => some (.console, .orderDel, t, a)
  | .orderMove t a => some (.console, .orderMove, t, a)
  | .orderList t a => some (.console, .orderList, t, a)
  | .peek t a => some (.console, .peek, t, a)
  | .poke t a => some (.console, .poke, t, a)
  | .ports t a => some (.console, .ports, t, a)
  | .probe t a => some (.console, .probe, t, a)
  | .restart t a => some (.console, .restart, t, a)
  | .save t a => some (.console, .save, t, a)
  | .seek t a => some (.console, .seek, t, a)
  | .set t a => some (.console, .set, t, a)
  | .spent t a => some (.console, .spent, t, a)
  | .stage t a => some (.console, .stage, t, a)
  | .stat l t a => some (l, .stat, t, a)
  | .volume t a => some (.console, .volume, t, a)
  | .alive t a => some (.target, .alive, t, a)
  | .revert t a => some (.target, .revert, t, a)
  | .hand t a => some (.target, .hand, t, a)
  | .reboot t a => some (.target, .reboot, t, a)
  | .powerOn | .pinReset | .settingsSettled | .initTimerExpiry | .flashExchangeEnd .. | .cardExchangeEnd ..
  | .blockExchangeEnd .. | .linkAnswerFrame .. | .exchangeTimeout .. | .cardSenseChange .. | .cardInserted ..
  | .cardRemoved .. | .questionTimerExpiry | .roundWaitExpiry | .windowExpiry | .memoryResponse .. | .responseTimeout
  | .saveWriteEnd .. | .saveTimerExpiry | .receivedByte .. | .framingError .. | .lineBreak | .badLine .. | .lineTooLong ..
  | .unknownVerb .. | .consoleRecordSent | .targetRecordSent | .returnToMarking .. | .targetLineSpacingHeld
  | .linkRequestSent .. | .malformedTag .. => none

/-- The words of the line that a command stands for, with the line it comes on. -/
def Instr.line? : Instr → Option (Line × List Text)
  | .unknownVerb l t ws => some (l, lineWords t ws)
  | .malformedTag l rest ws => some (l, ('#' :: rest) :: ws)
  | i =>
    match i.verb? with
    | some (l, v, t, a) => some (l, lineWords t (v.words ++ a))
    | none => none

/-- A verb word that the line's list holds (R176). -/
def knownVerb (l : Line) (w : Text) : Bool :=
  match l with
  | .console => w = "MAP".toList || w = "ORDER".toList || (findWord consoleVerbs w).isSome
  | .target => (findWord targetVerbs w).isSome

/-- The words of an UNKNOWN_VERB command: a verb word not in the list of its line, or with a tag no word at all (R176). -/
def unknownWords (l : Line) (t : Option Tag) : List Text → Bool
  | [] => t.isSome
  | w :: _ => !knownVerb l w && (t.isSome || w.head? ≠ some '#')

/-- The operands of a command are of the form its row describes. -/
def Instr.wellFormed : Instr → Bool
  | .flashExchangeEnd _ (.block data _) => data.length = Config.blockBytes
  | .cardExchangeEnd _ (.block data _) => data.length = Config.blockBytes
  | .blockExchangeEnd _ (.readyBlock data) => data.length = Config.blockBytes
  | .linkAnswerFrame _ bytes => bytes ≠ []
  | .unknownVerb l t ws => isLine (lineWords t ws) && unknownWords l t ws
  | .malformedTag _ rest ws => isLine (('#' :: rest) :: ws) && (parseTag rest).isNone
  | i =>
    match i.line? with
    | some (_, ws) => isLine ws
    | none => true

end Sys2Proof
end

