-- ==== Sys2Proof/Certificates/Slice0/Obligations.lean ====
section
/-! DEFINITION. The statements about the BS204 that are to be proved: what each command does, what it leaves unchanged, how
lines are read, and the conditions every step keeps. A verb command stands for its whole line, taken at once when nothing
waits: that is the model's choice (notes/assumptions/5.md), and every statement about a verb is made in its terms. -/

open Sys2Proof Sys2Proof.Machine

/-! ### Steps -/

/-- A step takes the command at the front of the queue and runs it on the rest. -/
def Obligations.StepRunsTheFrontCommand : Prop :=
  ∀ (c : Instr) (rest : List Instr) (s : State), step { s with pending := c :: rest } = exec c { s with pending := rest }

/-- Every command of the part has a next state in every state, and leaves the queue of waiting commands as it was. That a command
which has nothing to act on goes on is the model's choice (notes/assumptions/6.md and 17.md). -/
def Obligations.EveryCommandGoesOn : Prop := ∀ (c : Instr) (s : State), ∃ p, Yields c s p

/-! ### Lines and the request grammar -/

/-- A request that RLN refuses for its argument words, or SUP by mode, is answered with that refusal, and nothing else changes
(R139, R141, R152, R178). -/
def Obligations.RefusedRequestsOnlyReply : Prop :=
  ∀ (c : Instr) (l : Line) (v : Verb) (tag : Option Tag) (args : List Text) (s : State), c.verb? = some (l, v, tag, args) →
    (∀ code, classifyWords args = .inl code →
      (l = .console → consoleQuiet s.toPart → Yields c s (refuses code tag s.toPart)) ∧
        (l = .target → targetTaken s.toPart → Yields c s (targetAnswers (refusal code tag) .nothing s.toPart))) ∧
    ∀ as, classifyWords args = .inr as → l = .console → consoleQuiet s.toPart →
      (s.sup.mode = .init ∨ s.sup.restartPending = true → Yields c s (refuses 120 tag s.toPart)) ∧
      (v ≠ .go →
        (∀ phase, s.sup.mode = .auto phase →
          v ∉ [.stat, .log, .spent, .defects, .get, .mapList, .restart, .ports, .orderList, .answer, .abort] →
          Yields c s (refuses 120 tag s.toPart)) ∧
        (∀ busy, s.sup.mode = .manual busy → v = .answer ∨ v = .hold ∨ (v = .abort ∧ busy = none) →
          Yields c s (refuses 120 tag s.toPart)) ∧
        (∀ phase, s.sup.mode = .targetRun phase →
          v ∉ [.stat, .log, .spent, .defects, .get, .mapList, .restart, .ports, .orderList, .hold] →
          Yields c s (refuses 120 tag s.toPart)) ∧
        ∀ reason, s.sup.mode = .halted reason → v ∉ [.stat, .log, .spent, .defects, .get, .mapList, .restart] →
          Yields c s (refuses 120 tag s.toPart))

/-- A line that RLN answers itself: 102 for a BAD line, 101 for one too long, 110 for a verb it does not know, 111 without a
tag echo for a malformed tag; nothing but the reply changes (R173, R174, R176). While two lines wait on the console, or on the
target line, the line is discarded with notice 105 or 106 (R172). -/
def Obligations.LinesThatRlnAnswers : Prop :=
  ∀ (c : Instr) (l : Line) (r : Record) (s : State), c.wellFormed = true →
    ((c = .badLine l ∧ r = refusal 102 none) ∨ (c = .lineTooLong l ∧ r = refusal 101 none) ∨
      (∃ tag ws, c = .unknownVerb l tag ws ∧ r = refusal 110 tag) ∨
      ∃ rest ws, c = .malformedTag l rest ws ∧ r = refusal 111 none) →
    (l = .console → consoleQuiet s.toPart → Yields c s (answers r s.toPart)) ∧
    (l = .console → s.con.lines.length = 2 → Yields c s (raise 105 none [] s.toPart)) ∧
    (l = .target → targetTaken s.toPart → Yields c s (targetAnswers r .nothing s.toPart)) ∧
    (l = .target → s.tgt.isOpen = true → s.tgt.lines.length = 2 → Yields c s (raise 106 none [] s.toPart)) ∧
    (l = .target → s.tgt.isOpen = false → Yields c s s.toPart)

/-- A number as the part writes it reads back as itself, and so does its decimal form with a full stop (R177, R179). -/
def Obligations.WrittenNumbersReadBack : Prop :=
  ∀ n : Nat, n < 0x100000000 →
    classifyWord (hexText n) = .inr (.num n) ∧ classifyWord (Nat.toDigits 10 n ++ ['.']) = .inr (.num n)

/-- The line that a well-formed verb command stands for is parsed as that verb with its tag and arguments, or as the refusal
of its first bad argument word (R176 to R178). -/
def Obligations.RequestLinesReadBack : Prop :=
  ∀ (c : Instr) (l : Line) (v : Verb) (tag : Option Tag) (args : List Text), c.wellFormed = true →
    c.verb? = some (l, v, tag, args) → parseLine l (lineText tag (v.words ++ args)) = verbRequest v tag args

/-- That a verb command stands for its whole line is the model's choice (notes/assumptions/5.md); this says that the choice is
faithful. Typing the line of a verb command, in either case of letters and ended by 0D, on a line with an empty partial line and
nothing waiting ends in the state that the command gives (R170, R171, R173, R174). -/
def Obligations.TypedLineIsItsCommand : Prop :=
  ∀ (c : Instr) (l : Line) (v : Verb) (tag : Option Tag) (args : List Text) (bytes : List Byte) (s : State),
    c.wellFormed = true → c.verb? = some (l, v, tag, args) → bytes.map foldChar = lineText tag (v.words ++ args) →
    ((l = .console ∧ consoleQuiet s.toPart ∧ s.con.waitMarking = false ∧ s.con.line = ⟨[], .nothing⟩) ∨
      (l = .target ∧ targetTaken s.toPart ∧ s.tgt.waitMarking = false ∧ s.tgt.line = ⟨[], .nothing⟩)) →
    runCommands (typedLine l bytes) s = exec c s

/-- How a received byte or framing error changes the partial line of the console or of the open target line, and that it
changes nothing else (R169, R170); a receiver that waits for marking takes none (R175). -/
def Obligations.ReceivedBytesBuildTheLine : Prop :=
  ∀ (l : Line) (b : Byte) (s : State) (line : Partial) (waits : Bool) (put : Partial → Part),
    ((l = .console ∧ line = s.con.line ∧ waits = s.con.waitMarking ∧
        put = fun x => { s.toPart with con := { s.con with line := x } }) ∨
      (l = .target ∧ s.tgt.isOpen = true ∧ line = s.tgt.line ∧ waits = s.tgt.waitMarking ∧
        put = fun x => { s.toPart with tgt := { s.tgt with line := x } })) →
    (waits = true → Yields (.receivedByte l b) s s.toPart ∧ Yields (.framingError l) s s.toPart) ∧
    (waits = false →
      (line.mark ≠ .nothing →
        (b ≠ 0x0D → Yields (.receivedByte l b) s s.toPart) ∧ Yields (.framingError l) s s.toPart) ∧
      (line.mark = .nothing →
        (b = 0x0A → Yields (.receivedByte l b) s s.toPart) ∧
        (b = 0x08 → Yields (.receivedByte l b) s (put { line with kept := line.kept.dropLast })) ∧
        (0x20 ≤ b.toNat → b.toNat ≤ 0x7E → line.kept.length < 80 →
          Yields (.receivedByte l b) s
            (put { line with
              kept := line.kept ++
                [if 0x61 ≤ b.toNat ∧ b.toNat ≤ 0x7A then Char.ofNat (b.toNat - 0x20) else Char.ofNat b.toNat] })) ∧
        (0x20 ≤ b.toNat → b.toNat ≤ 0x7E → 80 ≤ line.kept.length →
          Yields (.receivedByte l b) s (put ⟨[], .tooLong⟩)) ∧
        (b.toNat < 0x20 ∨ 0x7E < b.toNat → b ≠ 0x08 → b ≠ 0x0A → b ≠ 0x0D →
          Yields (.receivedByte l b) s (put ⟨[], .bad⟩)) ∧
        Yields (.framingError l) s (put ⟨[], .bad⟩)))

/-- At 0D the partial line is empty, and a line that is not blank is offered to its queue as TEXT, BAD or TOO-LONG by its mark
(R171): it is taken at once when nothing waits, waits behind a reply, and is discarded with its notice when two lines wait
(R172 to R174). -/
def Obligations.CompletedLinesAreOffered : Prop :=
  ∀ (s : State) (q : Option QueuedLine) (line : Partial),
    ((line.mark = .nothing ∧ (∀ c ∈ line.kept, c = ' ') ∧ q = none) ∨
      (line.mark = .nothing ∧ (∃ c ∈ line.kept, c ≠ ' ') ∧ q = some (.text line.kept)) ∨
      (line.mark = .bad ∧ q = some .bad) ∨ (line.mark = .tooLong ∧ q = some .tooLong)) →
    (∀ p, s.con.line = line → s.con.waitMarking = false →
      p = { s.toPart with con := { s.con with line := ⟨[], .nothing⟩ } } →
      (q = none → Yields (.receivedByte .console 0x0D) s p) ∧
      ∀ x, q = some x →
        (consoleQuiet s.toPart → Yields (.receivedByte .console 0x0D) s (takeConsoleLine x p)) ∧
        (s.con.lines.length < 2 → s.con.replies ≠ [] →
          Yields (.receivedByte .console 0x0D) s { p with con := { p.con with lines := s.con.lines ++ [x] } }) ∧
        (2 ≤ s.con.lines.length → Yields (.receivedByte .console 0x0D) s (raise 105 none [] p))) ∧
    ∀ p, s.tgt.line = line → s.tgt.isOpen = true → s.tgt.waitMarking = false →
      p = { s.toPart with tgt := { s.tgt with line := ⟨[], .nothing⟩ } } →
      (q = none → Yields (.receivedByte .target 0x0D) s p) ∧
      ∀ x, q = some x →
        (targetTaken s.toPart → Yields (.receivedByte .target 0x0D) s (takeTargetLine x p)) ∧
        (s.tgt.lines.length < 2 → (∃ i ∈ s.tgt.queue, i.record.form ≠ .notice) ∨ s.tgt.accepting = false →
          Yields (.receivedByte .target 0x0D) s { p with tgt := { p.tgt with lines := s.tgt.lines ++ [x] } }) ∧
        (2 ≤ s.tgt.lines.length → Yields (.receivedByte .target 0x0D) s (raise 106 none [] p))

/-- A break discards the partial line, makes the receiver wait for marking, and acts on the supervisor by mode (R145, R175);
while the receiver waits there is no further break. -/
def Obligations.BreakActsByMode : Prop :=
  ∀ (s : State) (p : Part), p = { s.toPart with con := { s.con with line := ⟨[], .nothing⟩, waitMarking := true } } →
    (s.con.waitMarking = true → Yields .lineBreak s s.toPart) ∧
    (s.con.waitMarking = false →
      (s.sup.restartPending = true → Yields .lineBreak s p) ∧
      (s.sup.restartPending = false →
        (s.sup.mode = .init → Yields .lineBreak s { p with sup := { p.sup with breakFlag := true } }) ∧
        ((∃ phase, s.sup.mode = .auto phase) ∨ (∃ v, s.sup.mode = .manual (some v)) →
          Yields .lineBreak s (abortOperation p)) ∧
        (s.sup.mode = .manual none ∨ (∃ phase, s.sup.mode = .targetRun phase) ∨ (∃ r, s.sup.mode = .halted r) →
          Yields .lineBreak s p)))

/-- ABORT with no argument replies "+000" and aborts the operation as a break does, in AUTO and MANUAL BUSY; an argument there
is refused with 111; everywhere else ABORT is refused with 120 (R148). -/
def Obligations.AbortIsABreakWithAReply : Prop :=
  ∀ (tag : Option Tag) (args : List Text) (as : List Arg) (s : State), classifyWords args = .inr as → consoleQuiet s.toPart →
    (s.sup.restartPending = false → (∃ phase, s.sup.mode = .auto phase) ∨ (∃ v, s.sup.mode = .manual (some v)) →
      (as = [] → Yields (.abort tag args) s (abortOperation (answersOk tag s.toPart))) ∧
      (as ≠ [] → Yields (.abort tag args) s (refuses 111 tag s.toPart))) ∧
    (s.sup.restartPending = true ∨ s.sup.mode = .init ∨ s.sup.mode = .manual none ∨
        (∃ phase, s.sup.mode = .targetRun phase) ∨ (∃ r, s.sup.mode = .halted r) →
      Yields (.abort tag args) s (refuses 120 tag s.toPart))

/-- The abort of an operation with no memory transaction in flight ends it: the mode MANUAL IDLE, the slot empty, nothing in
progress, the target held, and in mode AUTO notice 801 with the run tag and the phase; the settings, the map's regions and the
target line stay (R146, R147). Each owner has its own end: a check notice 503 with a marked region DEFECTIVE, a search the
ABORTED record of its attempt, with notice 411 for a question, a load the ABORTED record with notice 702, PROBE, VOLUME and
PEEK their ABORTED reply, a STAGE or BOOT before its load the ABORTED record with 702; a port operation is withdrawn (R10, R21,
R37, R55, R64, R81, R95, R111, R114). With a transaction in flight the abort waits for its end, and nothing else changes; its
outcome is then judged for a check, marks the region of a load's fault, or joins the words of a PEEK, and the abort follows; a
POKE gives its own reply (R77, R81; how the model waits is notes/assumptions/10.md, and which response is the transaction's is
28.md). A reply joins those that wait behind the record being sent. That a region whose last word is judged under the abort
counts as cut short, so that its health is kept unless it is marked, is the model's choice (notes/assumptions/18.md). -/
def Obligations.AbortedOperationsEnd : Prop :=
  (∀ p : Part, slotSound p = true → (∃ phase, p.sup.mode = .auto phase) ∨ (∃ v, p.sup.mode = .manual (some v)) →
     (p.mmp.txn = none →
       (abortOperation p).sup = { p.sup with mode := .manual none, slot := none, runTag := none, verbRun := none } ∧
       nothingRuns (abortOperation p) = true ∧ operations (abortOperation p) = [] ∧
       (abortOperation p).rlu = p.rlu ∧ (abortOperation p).sst = p.sst ∧ (abortOperation p).tgt = p.tgt ∧
       (abortOperation p).mmp.txn = none ∧ (abortOperation p).con.lines = p.con.lines ∧
       ∀ phase, p.sup.mode = .auto phase → ∃ q, abortOperation p = raise 801 p.sup.runTag [.word phase.name] q) ∧
     (p.mmp.txn ≠ none → abortOperation p = { p with sup := { p.sup with abortPending := true } })) ∧
  (∀ (p : Part) (ended : Part → Part), p.mmp.txn = none → p.rlu.treset = .asserted →
    (∃ phase, p.sup.mode = .auto phase ∧
        ∀ q, ended q = raise 801 p.sup.runTag [.word phase.name] (slotGivenBack q)) ∨
      (∃ v, p.sup.mode = .manual (some v) ∧ ∀ q, ended q = slotGivenBack q) →
    (∀ r, p.mck.run = some r →
      abortOperation p =
        ended
          { raise 503 r.tag [.num r.pass, .num (min 0xFFFF (p.mck.defects.length + p.mck.dropped))]
              (if r.current ∈ r.marks then
                { p with mmp := { p.mmp with health := p.mmp.health.set r.current .defective } } else p) with
            mck := { p.mck with run := none } }) ∧
    ∀ q, p.mck.run = none → withdrawn p q →
      (∀ r, p.sre.run = some r →
        (r.stage = .waiting → abortOperation p = ended (runOver p)) ∧
        (∀ plan, r.stage = .loading → p.ldr.plan = some plan →
          abortOperation p =
            ended (runOver (raise 702 plan.tag [.num plan.image.port.num, .num plan.image.unit, .word "ABORTED"]
              (records plan.tag plan.fields .aborted none (some plan.image.imageId) q)))) ∧
        ∀ e fields, 1 ≤ r.entry → p.sst.settings.order[r.entry - 1]? = some e → fields = ⟨r.round, r.entry, e.port, r.unit⟩ →
          (r.stage = .probing ∨ (∃ c, r.stage = .block0 c) →
            abortOperation p = ended (runOver (records r.tag fields .aborted none none q))) ∧
          ∀ h x, r.stage = .question → r.held = some h → p.sre.question = some x →
            abortOperation p =
              ended (runOver (records r.tag fields .aborted none h.imageId
                (raise 411 r.tag [.num x.id]
                  { p with
                    sre := { p.sre with question := none, questionTimer := none, run := some { r with held := none } }
                    con := { p.con with question := none } })))) ∧
      (p.sre.run = none →
        (∀ tag port unit, p.sup.verbRun = some (.probe tag port unit) → p.con.replies = [] →
          abortOperation p = ended (answers (accepted 0 tag [.num port.num, .num unit, .word "ABORTED"]) q)) ∧
        (∀ tag port unit capacity, p.sup.verbRun = some (.volume tag port unit capacity) → p.con.replies = [] →
          abortOperation p = ended (answers (multiLine tag [[.num port.num, .num unit, .word "ABORTED"]]) q)) ∧
        (∀ tag a left words, p.sup.verbRun = some (.peek tag a left words) → p.con.replies = [] →
          abortOperation p =
            ended (answers
              (multiLine tag ((words.map fun y =>
                [.num y.1, match y.2 with | .word v => .num v.toNat | .code k => .code k]) ++ [[.word "ABORTED"]])) p)) ∧
        (∀ tag port unit, p.sup.verbRun = some (.probe tag port unit) → p.con.tx ≠ none →
          abortOperation p = ended (answersBehind (accepted 0 tag [.num port.num, .num unit, .word "ABORTED"]) q)) ∧
        (∀ tag port unit capacity, p.sup.verbRun = some (.volume tag port unit capacity) → p.con.tx ≠ none →
          abortOperation p = ended (answersBehind (multiLine tag [[.num port.num, .num unit, .word "ABORTED"]]) q)) ∧
        (∀ tag a left words, p.sup.verbRun = some (.peek tag a left words) → p.con.tx ≠ none →
          abortOperation p =
            ended (answersBehind
              (multiLine tag ((words.map fun y =>
                [.num y.1, match y.2 with | .word v => .num v.toNat | .code k => .code k]) ++ [[.word "ABORTED"]])) p)) ∧
        (∀ boot tag port unit raw stage, p.sup.verbRun = some (.start boot tag port unit raw stage) →
          (stage ≠ .loading →
            abortOperation p =
              ended (raise 702 tag [.num port.num, .num unit, .word "ABORTED"]
                (records tag ⟨0, 0, port, unit⟩ .aborted none none q))) ∧
          ∀ plan, stage = .loading → p.ldr.plan = some plan →
            abortOperation p =
              ended (raise 702 plan.tag [.num plan.image.port.num, .num plan.image.unit, .word "ABORTED"]
                (records plan.tag plan.fields .aborted none (some plan.image.imageId) q))))) ∧
  ∀ (s : State) (c : Instr) (a : Nat) (kind : TxnKind) (w : Word32) (fault : Option TxnOutcome),
    s.sup.abortPending = true →
    ((c = .memoryResponse true false w ∧ fault = none) ∨ ((∃ mrdy, c = .memoryResponse mrdy true w) ∧ fault = some .busError) ∨
      (c = .responseTimeout ∧ fault = some .noResponse)) →
    (∀ r, s.mmp.txn = some ⟨kind, a, .checker⟩ → s.mck.run = some r → r.effective = .read → r.firstRead = none → fault = none →
      Yields c s (abortOperation { s.toPart with mmp := { s.mmp with txn := none } })) ∧
    (∀ r d, s.mmp.txn = some ⟨checkWord r.phase r.cursor, a, .checker⟩ → s.mck.run = some r →
      (r.effective = .read → r.phase = 0) → checkFinds r c d →
      Yields c s (abortOperation
        { s.toPart with
          mck := { defectKept d s.mck with run := some (marked d r) }
          mmp := { s.mmp with txn := none } })) ∧
    (s.mmp.txn = some ⟨kind, a, .loader⟩ →
      (fault = none → Yields c s (abortOperation { s.toPart with mmp := { s.mmp with txn := none } })) ∧
      ∀ i, fault ≠ none → regionAt s.sst.settings.map a = some i →
        Yields c s (abortOperation { s.toPart with mmp := { health := s.mmp.health.set i .defective, txn := none } })) ∧
    (∀ tag left words x, s.mmp.txn = some ⟨.read, a, .peek⟩ → s.sup.verbRun = some (.peek tag a left words) →
      (fault, x) ∈ [(none, .word w), (some .busError, .code 603), (some .noResponse, .code 602)] →
      Yields c s (abortOperation
        { s.toPart with
          mmp := { s.mmp with txn := none }
          sup := { s.sup with verbRun := some (.peek tag a left (words ++ [(a, x)])) } })) ∧
    ∀ tag r, s.mmp.txn = some ⟨kind, a, .poke⟩ → s.sup.verbRun = some (.poke tag) →
      (fault, r) ∈ [(none, accepted 0 tag []), (some .busError, refusal 603 tag), (some .noResponse, refusal 602 tag)] →
      (s.con.replies = [] →
        Yields c s (slotGivenBack (answers r { s.toPart with mmp := { s.mmp with txn := none } }))) ∧
      (s.con.tx ≠ none →
        Yields c s (slotGivenBack (answersBehind r { s.toPart with mmp := { s.mmp with txn := none } })))

/-- The return of a line to marking lets its receiver go on; an open target line held at spacing waits for marking, with no
break and its partial line kept (R175). Nothing else changes. -/
def Obligations.MarkingAndSpacing : Prop :=
  ∀ s : State,
    Yields (.returnToMarking .console) s { s.toPart with con := { s.con with waitMarking := false } } ∧
    Yields (.returnToMarking .target) s { s.toPart with tgt := { s.tgt with waitMarking := false } } ∧
    (s.tgt.isOpen = true → Yields .targetLineSpacingHeld s { s.toPart with tgt := { s.tgt with waitMarking := true } }) ∧
    (s.tgt.isOpen = false → Yields .targetLineSpacingHeld s s.toPart)

/-- A notice raised while a record is being sent joins the notice queue when it holds fewer than 16, and is otherwise dropped and
counted, the count staying at FF; one raised with the transmitter free and nothing waiting is sent at once (R180, R182). -/
def Obligations.NoticesJoinTheQueue : Prop :=
  ∀ (code : Nat) (tag : Option Tag) (fields : List Field) (p : Part),
    (p.con.tx ≠ none → p.con.notices.length < 16 →
      raise code tag fields p =
        { p with con := { p.con with notices := p.con.notices ++ [⟨.notice, code, tag, fields, []⟩] } }) ∧
    (p.con.tx ≠ none → 16 ≤ p.con.notices.length →
      raise code tag fields p = { p with con := { p.con with lost := if p.con.lost < 0xFF then p.con.lost + 1 else p.con.lost } }) ∧
    (p.con.tx = none → p.con.replies = [] → p.con.question = none → p.con.notices = [] → p.con.lost = 0 →
      raise code tag fields p =
        { p with con := { p.con with tx := some { record := some ⟨.notice, code, tag, fields, []⟩ } } })

/-- When a console record has left and no line waits, the next record is the oldest reply, else the question, else the oldest
notice, with "*199 n" put behind the notices after a loss (R180, R182); a reply that leaves the queue empty lets the waiting
line be taken (R173). -/
def Obligations.ArbiterChoosesTheNextRecord : Prop :=
  ∀ (s : State) (i : ConsoleItem), s.con.tx = some i → i.restart = false → i.rateSwitch = false →
    (s.con.lines = [] →
      (∀ r rest, s.con.replies = r :: rest →
        Yields .consoleRecordSent s { s.toPart with con := { s.con with tx := some r, replies := rest } }) ∧
      (s.con.replies = [] →
        (∀ q, s.con.question = some q →
          Yields .consoleRecordSent s
            { s.toPart with con := { s.con with tx := some { record := some q }, question := none } }) ∧
        (s.con.question = none →
          (∀ n rest, s.con.notices = n :: rest → s.con.notices.length ≤ 16 →
            Yields .consoleRecordSent s
              { s.toPart with con :=
                { s.con with
                  tx := some { record := some n }
                  notices := if s.con.lost = 0 then rest else rest ++ [⟨.notice, 199, none, [.num s.con.lost], []⟩]
                  lost := 0 } }) ∧
          (s.con.notices = [] → Yields .consoleRecordSent s { s.toPart with con := { s.con with tx := none } })))) ∧
    ∀ q r, s.con.lines = [q] → s.con.replies = [r] →
      Yields .consoleRecordSent s
        (takeConsoleLine q { s.toPart with con := { s.con with tx := some r, replies := [], lines := [] } })

/-- RESTART is pending until its "+000" has left the console; then the part is reset with cause RESTART: a pending question is
withdrawn with notice 411, the settings store, the attempt log, the defect list, the health of the regions, and the console's partial
line, line queue, replies, notices, lost count and rate are kept, and the next record is sent, or with a line waiting it is taken
as the last reply is sent (R55, R152, R168, R173, R182, R187, R189). A rate switch is made when the record that it waits for has
left (R183). That both wait as marks on the record, and the order of the events of one record's end, are the model's reading
(notes/assumptions/19.md and 23.md); so is that the partial line is kept (notes/assumptions/9.md), and the rate of the closed target
line (notes/assumptions/22.md). -/
def Obligations.RestartAndRateSwitchFollowTheirReply : Prop :=
  (∀ (tag : Option Tag) (args : List Text) (as : List Arg) (s : State), classifyWords args = .inr as →
    requestTaken s.toPart →
    (as = [] →
      Yields (.restart tag args) s
        { s.toPart with
          sup := { s.sup with restartPending := true }
          con := s.con.answered { record := some (accepted 0 tag []), restart := true } }) ∧
    (as ≠ [] → Yields (.restart tag args) s (refuses 111 tag s.toPart))) ∧
  (∀ (s : State) (i : ConsoleItem), s.con.tx = some i → i.restart = true → s.sup.restartPending = true →
    i.rateSwitch = false → s.con.notices.length ≤ 16 →
    (s.con.lines = [] →
      Yields .consoleRecordSent s (restarted (restartedConsole s.toPart).nextSent s.toPart)) ∧
    ∀ q r, s.con.lines = [q] → s.con.replies = [r] →
      Yields .consoleRecordSent s
        (takeConsoleLine q
          (restarted
            { restartedConsole s.toPart with tx := some { r with restart := false }, replies := [], lines := [] }
            s.toPart))) ∧
  ∀ (s : State) (i : ConsoleItem) (rate : Nat), s.con.tx = some i → i.restart = false → i.rateSwitch = true →
    s.con.pendingRate = some rate → s.con.notices.length ≤ 16 → s.con.lines = [] →
    Yields .consoleRecordSent s
      { s.toPart with con := { s.con with rate := rate, pendingRate := none }.nextSent }

/-- When a target-line record has left, the next of the queue is sent, and with no further reply waiting the waiting line is taken in
the same step, or kept while RLU takes no request (R174, R185); after "+803" the part takes a RESTART at once (R153, R187). The rate
of the closed target line is the model's choice (notes/assumptions/22.md), and that the console's partial line is kept is its reading
(notes/assumptions/9.md). -/
def Obligations.TargetRecordsFollowInOrder : Prop :=
  ∀ (s : State) (i : TargetItem), s.tgt.tx = some i →
    (i.after = .nothing →
      (∀ r rest, s.tgt.queue = r :: rest → s.tgt.lines = [] →
        Yields .targetRecordSent s { s.toPart with tgt := { s.tgt with tx := some r, queue := rest } }) ∧
      (s.tgt.queue = [] → s.tgt.lines = [] → Yields .targetRecordSent s { s.toPart with tgt := { s.tgt with tx := none } }) ∧
      ∀ q r, s.tgt.lines = [q] → s.tgt.queue = [r] →
        (s.tgt.isOpen = true → s.tgt.accepting = true →
          Yields .targetRecordSent s
            (takeTargetLine q { s.toPart with tgt := { s.tgt with tx := some r, queue := [], lines := [] } })) ∧
        (s.tgt.accepting = false →
          Yields .targetRecordSent s { s.toPart with tgt := { s.tgt with tx := some r, queue := [] } })) ∧
    (i.after = .reboot → Yields .targetRecordSent s (restarted (restartedConsole s.toPart) s.toPart))

/-! ### Verbs that report -/

/-- LOG replies with the line count and the text form of every attempt-log record, oldest first; an argument is refused with
111, and during INIT it is refused with 120; it changes nothing but the reply (R57, R58). -/
def Obligations.LogListsTheAttemptLog : Prop :=
  ∀ s : State,
    (requestTaken s.toPart →
      Lists .log (s.sre.log.map fun r =>
        [.num r.seq, .num r.fields.round, .num r.fields.entry, .num r.fields.port.num, .num r.fields.unit,
          .word r.outcome.name] ++ (match r.detail with | some d => [.word "DETAIL", .num d] | none => []) ++
          (match r.imageId with | some i => [.word "ID", .num i.toNat] | none => [])) s) ∧
    (consoleQuiet s.toPart → s.sup.mode = .init →
      ∀ (tag : Option Tag) (args : List Text) (as : List Arg), classifyWords args = .inr as →
        Yields (.log tag args) s (refuses 120 tag s.toPart))

/-- The other verbs that list state: SPENT, DEFECTS and MAP LIST outside INIT, PORTS and ORDER LIST outside INIT and HALTED.
Each replies with its lines, an argument is refused with 111, and nothing else changes (R20, R42, R60, R71, R97). -/
def Obligations.ListingVerbsChangeNothing : Prop :=
  ∀ s : State, requestTaken s.toPart →
    Lists .spent (s.sre.spent.map fun k => [.num k.port.num, .num k.unit, .num k.imageId.toNat]) s ∧
    Lists .defects
      ((s.mck.defects.map fun d =>
          [.num d.address, .word d.kind.name] ++
            (match d.expected with | some w => [.word "EXPECT", .num w.toNat] | none => []) ++
            (match d.observed with | some w => [.word "SEEN", .num w.toNat] | none => []) ++ [.word "PASS", .num d.pass]) ++
        [[.word "DROPPED", .num s.mck.dropped]]) s ∧
    Lists .mapList
      (Idx.all.filterMap fun i => (s.sst.settings.map.get i).map fun r =>
        [.num i.num, .num r.base, .num r.size, .word (s.mmp.health.get i).name] ++
          (if r.load then [.word "LOAD"] else []) ++ (if r.check then [.word "CHECK"] else []) ++
          (if r.preserve then [.word "PRESERVE"] else [])) s ∧
    ((∀ reason, s.sup.mode ≠ .halted reason) →
      Lists .orderList
        (s.sst.settings.order.mapIdx fun k e =>
          [.num (k + 1), .num e.port.num, .num e.first, .num e.last, .num e.tries, .word e.policy.name,
            .word (if e.lastResort then "YES" else "NO")]) s ∧
      ∀ t, s.spc.ports = some t →
        Lists .ports
          (Port.all.flatMap fun port =>
            ([.num port.num, .word (t.get port).kind.name, .word (t.get port).state.name, .num (t.get port).count] ++
                (if (t.get port).kind = .card then [.word (if (t.get port).cardPresent then "CARD" else "NOCARD")] else []) ++
                (match (t.get port).op with
                  | none => []
                  | some f =>
                    match f.op with
                    | .probe => [.word "PROBE", .num f.unit]
                    | .read block _ _ => [.word "READ", .num f.unit, .num block])) ::
              (t.get port).units.mapIdx fun u r =>
                [.num port.num, .num u, .word r.presence.name, .word r.readiness.name] ++
                  (match r.readiness, r.capacity with | .ready, some c => [.num c] | _, _ => [])) s)

/-- GET replies with the setting's name and value, each name giving the value of its own setting, and is refused with 111 for any
other form. STAT on the console in every mode but INIT, and on the target line while the target runs, replies with the state of
the part; an argument is refused with 111. Nothing else changes (R126, R151, R154, R159). -/
def Obligations.GetAndStatReport : Prop :=
  ((∀ (tag : Option Tag) (args : List Text) (as : List Arg) (s : State), classifyWords args = .inr as → requestTaken s.toPart →
     (∀ w n, as = [.word w] → findWord settingNames w = some n →
       Yields (.get tag args) s (answers (accepted 0 tag [.word n.name, settingField s.sst.settings n]) s.toPart)) ∧
     ((∀ w n, as = [.word w] → findWord settingNames w ≠ some n) → Yields (.get tag args) s (refuses 111 tag s.toPart))) ∧
   ∀ (tag : Option Tag) (args : List Text) (as : List Arg) (s : State) (entry unit : Nat) (r : Record),
     classifyWords args = .inr as → entry = (s.sre.run.map SearchRun.entry).getD 0 →
     unit = (if entry = 0 then 0 else (s.sre.run.map SearchRun.unit).getD 0) →
     r = accepted 0 tag
       [.word "MODE", .word s.sup.mode.name, .word "PHASE", .word s.sup.mode.phaseName, .word "CAUSE", .word s.sup.cause.name,
         .word "ROUND", .num ((s.sre.run.map SearchRun.round).getD s.sre.lastRound), .word "ENTRY", .num entry,
         .word "UNIT", .num unit, .word "IMAGE", .word s.ldr.image.name, .word "COUNT", .num s.sre.releaseCount,
         .word "BUDGET", .num s.sst.settings.budget, .word "QUESTION", .num ((s.sre.question.map Question.id).getD 0),
         .word "LOST", .num s.con.lost, .word "SOURCE", .word s.sst.source.name,
         .word "SAVING", .word (if s.sst.saving.isSome then "YES" else "NO"), .word "SPENT", .num s.sre.spent.length,
         .word "LOG", .num s.sre.log.length, .word "DEFECTS", .num (min 0xFFFF (s.mck.defects.length + s.mck.dropped))] →
     (requestTaken s.toPart →
       (as = [] → Yields (.stat .console tag args) s (answers r s.toPart)) ∧
       (as ≠ [] → Yields (.stat .console tag args) s (refuses 111 tag s.toPart))) ∧
     (targetTaken s.toPart → s.rlu.released ≠ none →
       (as = [] → Yields (.stat .target tag args) s (targetAnswers r .nothing s.toPart)) ∧
       (as ≠ [] → Yields (.stat .target tag args) s (targetAnswers (refusal 111 tag) .nothing s.toPart)))) ∧
  ∀ t : Settings,
    settingNames.map (fun x => (x.1, settingField t x.2)) =
      [("CONRATE", .num t.conrate), ("TGTRATE", .num t.tgtrate), ("AUTOSTART", .word (if t.autostart then "ON" else "OFF")),
        ("AUTOCHECK", .word t.autocheck.name), ("CHECKFAIL", .word t.checkfail.name), ("SHORTWAIT", .num t.shortwait),
        ("LONGWAIT", .num t.longwait), ("MAXROUNDS", .num t.maxrounds), ("ASKWAIT", .num t.askwait),
        ("CONFIRM", .num t.confirm), ("BUDGET", .num t.budget), ("VERIFY", .word (if t.verify then "ON" else "OFF")),
        ("RAWBASE", .num t.rawbase), ("RAWBLOCKS", .num t.rawblocks), ("RETRIES", .num t.retries),
        ("PORT0KIND", .word t.kinds.p0.name), ("PORT1KIND", .word t.kinds.p1.name), ("PORT2KIND", .word t.kinds.p2.name),
        ("PORT3KIND", .word t.kinds.p3.name)]

/-! ### Verbs that edit the settings -/

/-- ORDER DEL i removes entry i and closes the gap; it is judged 111, 112, 122 in that order, and changes nothing else (R40). -/
def Obligations.OrderDelClosesTheGap : Prop :=
  ∀ (tag : Option Tag) (args : List Text) (as : List Arg) (s : State), classifyWords args = .inr as → requestTaken s.toPart →
    inManual s.toPart →
    ((∀ i, as ≠ [.num i]) → Yields (.orderDel tag args) s (refuses 111 tag s.toPart)) ∧
    ∀ i, as = [.num i] →
      (i < 1 ∨ 12 < i → Yields (.orderDel tag args) s (refuses 112 tag s.toPart)) ∧
      (1 ≤ i → i ≤ 12 → s.sst.settings.order.length < i → Yields (.orderDel tag args) s (refuses 122 tag s.toPart)) ∧
      (1 ≤ i → i ≤ 12 → i ≤ s.sst.settings.order.length →
        Yields (.orderDel tag args) s
          (answersOk tag (setOrder (s.sst.settings.order.take (i - 1) ++ s.sst.settings.order.drop i) s.toPart)))

/-- ORDER PUT replaces entry i or appends entry n + 1, judged 111, 112, 122, 123 in that order; ORDER MOVE takes entry i out and
inserts it as entry j, judged 111, 112, 122; nothing else changes (R39, R41). -/
def Obligations.OrderPutAndMove : Prop :=
  ∀ (tag : Option Tag) (args : List Text) (as : List Arg) (s : State) (order : List BootEntry),
    classifyWords args = .inr as → requestTaken s.toPart → inManual s.toPart → order = s.sst.settings.order →
    ((∀ i x f l t policy resort pol r, as = [.num i, .num x, .num f, .num l, .num t, .word policy, .word resort] →
        ¬ (findWord policyWords policy = some pol ∧ findWord answerWords resort = some r)) →
      Yields (.orderPut tag args) s (refuses 111 tag s.toPart)) ∧
    (∀ i x f l t policy resort pol r, as = [.num i, .num x, .num f, .num l, .num t, .word policy, .word resort] →
      findWord policyWords policy = some pol → findWord answerWords resort = some r →
      (¬ (1 ≤ i ∧ i ≤ 13 ∧ x ≤ 3 ∧ f ≤ l ∧ l ≤ 7 ∧ 1 ≤ t ∧ t ≤ 15) →
        Yields (.orderPut tag args) s (refuses 112 tag s.toPart)) ∧
      ∀ port, Port.ofNat? x = some port → 1 ≤ i → i ≤ 13 → f ≤ l → l ≤ 7 → 1 ≤ t → t ≤ 15 →
        (order.length + 1 < i → Yields (.orderPut tag args) s (refuses 122 tag s.toPart)) ∧
        (i = order.length + 1 → 12 ≤ order.length → Yields (.orderPut tag args) s (refuses 123 tag s.toPart)) ∧
        (i = order.length + 1 → order.length < 12 →
          Yields (.orderPut tag args) s (answersOk tag (setOrder (order ++ [⟨port, f, l, t, pol, r⟩]) s.toPart))) ∧
        (i ≤ order.length →
          Yields (.orderPut tag args) s (answersOk tag (setOrder (order.set (i - 1) ⟨port, f, l, t, pol, r⟩) s.toPart)))) ∧
    ((∀ i j, as ≠ [.num i, .num j]) → Yields (.orderMove tag args) s (refuses 111 tag s.toPart)) ∧
    ∀ i j, as = [.num i, .num j] →
      (¬ (1 ≤ i ∧ i ≤ 12 ∧ 1 ≤ j ∧ j ≤ 12) → Yields (.orderMove tag args) s (refuses 112 tag s.toPart)) ∧
      (1 ≤ i → i ≤ 12 → 1 ≤ j → j ≤ 12 →
        (order.length < i ∨ order.length < j → Yields (.orderMove tag args) s (refuses 122 tag s.toPart)) ∧
        ∀ e, order[i - 1]? = some e → j ≤ order.length →
          Yields (.orderMove tag args) s
            (answersOk tag (setOrder ((order.eraseIdx (i - 1)).insertIdx (j - 1) e) s.toPart)))

/-- MAP PUT writes a region and makes its health UNCHECKED, MAP DEL empties an index; each is judged in the order its rule gives,
and no other index, health or state changes (R68 to R70, R73). -/
def Obligations.MapEditsOneIndex : Prop :=
  ∀ (tag : Option Tag) (args : List Text) (as : List Arg) (s : State), classifyWords args = .inr as → requestTaken s.toPart →
    inManual s.toPart →
    (∀ i base size attributes, as = .num i :: .num base :: .num size :: attributes →
      (¬ (attributes.Nodup ∧ ∀ a ∈ attributes,
          a = .word "LOAD".toList ∨ a = .word "CHECK".toList ∨ a = .word "PRESERVE".toList) →
        Yields (.mapPut tag args) s (refuses 111 tag s.toPart)) ∧
      (attributes.Nodup → (∀ a ∈ attributes,
          a = .word "LOAD".toList ∨ a = .word "CHECK".toList ∨ a = .word "PRESERVE".toList) →
        ∀ r : Region, r = ⟨base, size, decide (.word "LOAD".toList ∈ attributes), decide (.word "CHECK".toList ∈ attributes),
            decide (.word "PRESERVE".toList ∈ attributes)⟩ →
          (¬ (1 ≤ i ∧ i ≤ 8 ∧ base % 0x1000 = 0 ∧ size ≠ 0 ∧ size % 0x1000 = 0 ∧ base + size ≤ 0x100000000) →
            Yields (.mapPut tag args) s (refuses 112 tag s.toPart)) ∧
          ∀ idx, Idx.ofNat? i = some idx → base % 0x1000 = 0 → size ≠ 0 → size % 0x1000 = 0 →
            base + size ≤ 0x100000000 →
            (r.load = true → r.preserve = true → Yields (.mapPut tag args) s (refuses 607 tag s.toPart)) ∧
            (¬ (r.load = true ∧ r.preserve = true) →
              ((∃ j g, j ≠ idx ∧ s.sst.settings.map.get j = some g ∧ ∃ a, r.holds a = true ∧ g.holds a = true) →
                Yields (.mapPut tag args) s (refuses 606 tag s.toPart)) ∧
              ((∀ j g, s.sst.settings.map.get j = some g → 0 < g.size) →
                (∀ j g a, j ≠ idx → s.sst.settings.map.get j = some g → ¬ (r.holds a = true ∧ g.holds a = true)) →
                (s.sup.slot ≠ none → Yields (.mapPut tag args) s (refuses 121 tag s.toPart)) ∧
                (s.sup.slot = none →
                  Yields (.mapPut tag args) s
                    (answersOk tag
                      { s.toPart with
                        sst := { s.sst with settings := { s.sst.settings with map := s.sst.settings.map.set idx (some r) } }
                        mmp := { s.mmp with health := s.mmp.health.set idx .unchecked } })))))) ∧
    ((∀ i base size attributes, as ≠ .num i :: .num base :: .num size :: attributes) →
      Yields (.mapPut tag args) s (refuses 111 tag s.toPart)) ∧
    ((∀ i, as ≠ [.num i]) → Yields (.mapDel tag args) s (refuses 111 tag s.toPart)) ∧
    ∀ i, as = [.num i] →
      (i < 1 ∨ 8 < i → Yields (.mapDel tag args) s (refuses 112 tag s.toPart)) ∧
      ∀ idx, Idx.ofNat? i = some idx →
        (s.sst.settings.map.get idx = none → Yields (.mapDel tag args) s (refuses 122 tag s.toPart)) ∧
        (s.sst.settings.map.get idx ≠ none →
          (s.sup.slot ≠ none → Yields (.mapDel tag args) s (refuses 121 tag s.toPart)) ∧
          (s.sup.slot = none →
            Yields (.mapDel tag args) s
              (answersOk tag
                { s.toPart with
                  sst := { s.sst with settings := { s.sst.settings with map := s.sst.settings.map.set idx none } }
                  mmp := { s.mmp with health := s.mmp.health.set idx .unchecked } })))

/-- SET replaces the value of the one setting that its name gives when its form and range allow it, and changes nothing else: a
port kind also resets that port's entry and is refused with 121 while the slot is held, and a CONRATE other than the line's rate
waits for the reply (R5, R154, R156 to R158, R183). That a switch waits as a mark on the reply is the model's reading
(notes/assumptions/23.md). -/
def Obligations.SetReplacesOneSetting : Prop :=
  (∀ (tag : Option Tag) (args : List Text) (as : List Arg) (s : State), classifyWords args = .inr as → requestTaken s.toPart →
    inManual s.toPart →
    ((∀ w v n, as = [.word w, v] → findWord settingNames w ≠ some n) → Yields (.set tag args) s (refuses 111 tag s.toPart)) ∧
    ∀ w n, findWord settingNames w = some n →
      (∀ x, as = [.word w, .num x] →
        (n.numeric = false → Yields (.set tag args) s (refuses 111 tag s.toPart)) ∧
        (n.numeric = true → settingRange n x = false → Yields (.set tag args) s (refuses 112 tag s.toPart)) ∧
        (settingRange n x = true →
          (n ≠ .conrate →
            Yields (.set tag args) s (answersOk tag (setSettings (setNumber s.sst.settings n x) s.toPart))) ∧
          (n = .conrate → x = s.con.rate →
            Yields (.set tag args) s
              { s.toPart with
                sst := { s.sst with settings := { s.sst.settings with conrate := x } }
                con :=
                  (if s.con.pendingRate = none then s.con else { unmarkRate s.con with pendingRate := none }).answered
                    { record := some (accepted 0 tag []) } }) ∧
          (n = .conrate → x ≠ s.con.rate →
            Yields (.set tag args) s
              { s.toPart with
                sst := { s.sst with settings := { s.sst.settings with conrate := x } }
                con :=
                  { unmarkRate s.con with pendingRate := some x }.answered
                    { record := some (accepted 0 tag []), rateSwitch := true } }))) ∧
      ∀ k, as = [.word w, .word k] →
        (setKeyword s.sst.settings n k = none → Yields (.set tag args) s (refuses 111 tag s.toPart)) ∧
        ∀ v, setKeyword s.sst.settings n k = some v →
          ((∀ port, n ≠ .portKind port) → Yields (.set tag args) s (answersOk tag (setSettings v s.toPart))) ∧
          ∀ port, n = .portKind port →
            (s.sup.slot ≠ none → Yields (.set tag args) s (refuses 121 tag s.toPart)) ∧
            (s.sup.slot = none →
              Yields (.set tag args) s
                (answersOk tag
                  { s.toPart with
                    sst := { s.sst with settings := v }
                    spc :=
                      { s.spc with
                        ports := s.spc.ports.map fun t =>
                          t.set port (freshEntry (v.kinds.get port) (s.spc.sense.get port)) } }))) ∧
  ∀ x : Nat,
    (settingRange .conrate x = true ↔ x ∈ [9600, 19200, 38400, 57600, 115200, 230400]) ∧
    (settingRange .tgtrate x = true ↔ x ∈ [9600, 19200, 38400, 57600, 115200, 230400]) ∧
    (settingRange .shortwait x = true ↔ 1 ≤ x ∧ x ≤ 60) ∧ (settingRange .longwait x = true ↔ 10 ≤ x ∧ x ≤ 3600) ∧
    (settingRange .maxrounds x = true ↔ x ≤ 255) ∧ (settingRange .askwait x = true ↔ x ≤ 600) ∧
    (settingRange .confirm x = true ↔ x ≤ 600) ∧ (settingRange .budget x = true ↔ 1 ≤ x ∧ x ≤ 8) ∧
    (settingRange .rawbase x = true ↔ x ≤ 0xFFFFF000 ∧ x % 0x1000 = 0) ∧
    (settingRange .rawblocks x = true ↔ 1 ≤ x ∧ x ≤ 256) ∧ (settingRange .retries x = true ↔ x ≤ 7) ∧
    (∀ n, n.numeric = false → settingRange n x = false) ∧
    ∀ t : Settings,
      [SettingName.conrate, .tgtrate, .shortwait, .longwait, .maxrounds, .askwait, .confirm, .budget, .rawbase, .rawblocks,
          .retries].map (fun n => (n.name, n.numeric, setNumber t n x)) =
        [("CONRATE", true, { t with conrate := x }), ("TGTRATE", true, { t with tgtrate := x }),
          ("SHORTWAIT", true, { t with shortwait := x }), ("LONGWAIT", true, { t with longwait := x }),
          ("MAXROUNDS", true, { t with maxrounds := x }), ("ASKWAIT", true, { t with askwait := x }),
          ("CONFIRM", true, { t with confirm := x }), ("BUDGET", true, { t with budget := x }),
          ("RAWBASE", true, { t with rawbase := x }), ("RAWBLOCKS", true, { t with rawblocks := x }),
          ("RETRIES", true, { t with retries := x })] ∧
      ∀ (n : SettingName) (k : Text) (v : Settings),
        setKeyword t n k = some v ↔
          (n, k, v) ∈
              [(.autostart, "ON".toList, { t with autostart := true }), (.autostart, "OFF".toList, { t with autostart := false }),
                (.verify, "ON".toList, { t with verify := true }), (.verify, "OFF".toList, { t with verify := false }),
                (.autocheck, "NONE".toList, { t with autocheck := .nothing }),
                (.autocheck, "QUICK".toList, { t with autocheck := .quick }),
                (.autocheck, "WALK".toList, { t with autocheck := .walk }),
                (.checkfail, "HALT".toList, { t with checkfail := .halt }),
                (.checkfail, "CONTINUE".toList, { t with checkfail := .carryOn })] ∨
            ∃ port kind,
              (kind, k) ∈ [(.unused, "NONE".toList), (.flash, "FLASH".toList), (.card, "CARD".toList), (.block, "BLOCK".toList),
                (.link, "LINK".toList)] ∧
              n = .portKind port ∧ v = { t with kinds := t.kinds.set port kind }

/-- SAVE takes a snapshot for the area that does not hold the newest copy, with the next generation, and gives that area's copy
up; the write ends with the copy VALID and notice 900, or INVALID with notice 901 (R162, R163). Nothing else changes. That the
area holds no copy from the acceptance on is the model's reading (notes/assumptions/20.md). -/
def Obligations.SaveWritesTheOtherArea : Prop :=
  (∀ (tag : Option Tag) (args : List Text) (as : List Arg) (s : State), classifyWords args = .inr as → requestTaken s.toPart →
    inManual s.toPart →
    (as ≠ [] → Yields (.save tag args) s (refuses 111 tag s.toPart)) ∧
    (as = [] →
      (s.sst.saving ≠ none → Yields (.save tag args) s (refuses 902 tag s.toPart)) ∧
      (s.sst.saving = none →
        (0xFFFFFFFF ≤ newestGeneration s.sst → Yields (.save tag args) s (refuses 905 tag s.toPart)) ∧
        (newestGeneration s.sst < 0xFFFFFFFF →
          (newestArea s.sst = some .a →
            Yields (.save tag args) s
              (answersOk tag
                { s.toPart with sst :=
                  { s.sst with
                    areaB := none
                    recordB := none
                    saving := some ⟨.b, newestGeneration s.sst + 1, s.sst.settings, tag⟩ } })) ∧
          (newestArea s.sst ≠ some .a →
            Yields (.save tag args) s
              (answersOk tag
                { s.toPart with sst :=
                  { s.sst with
                    areaA := none
                    recordA := none
                    saving := some ⟨.a, newestGeneration s.sst + 1, s.sst.settings, tag⟩ } })))))) ∧
  ∀ (s : State) (v : Save), s.sst.saving = some v →
    (v.area = .a →
      Yields (.saveWriteEnd .readBackEqual) s
        (raise 900 v.tag [.word "A", .num v.generation]
          { s.toPart with sst :=
            { s.sst with areaA := some (storedCopy v.generation v.snapshot), recordA := some v.generation, saving := none } })) ∧
    (v.area = .b →
      Yields (.saveWriteEnd .readBackEqual) s
        (raise 900 v.tag [.word "B", .num v.generation]
          { s.toPart with sst :=
            { s.sst with areaB := some (storedCopy v.generation v.snapshot), recordB := some v.generation, saving := none } })) ∧
    ∀ c, c = .saveWriteEnd .readBackDiffers ∨ c = .saveWriteEnd .writeError ∨ c = .saveTimerExpiry →
      Yields c s
        (raise 901 v.tag [.word (match v.area with | .a => "A" | .b => "B")]
          { s.toPart with sst := { s.sst with saving := none } })

/-- The settings of a SAVE that ends DONE are those the part starts with after the next POWER-ON or PIN, with that area as the
source; a POWER-ON or PIN before the end leaves the choice to the other area's valid copy, or the defaults (R161 to R164; that
the area being written then holds no copy is notes/assumptions/20.md). -/
def Obligations.SavedSettingsComeBack : Prop :=
  ∀ (s : State) (v : Save) (reset : Instr), copiesSound s.toPart → s.sst.saving = some v →
    reset = .powerOn ∨ reset = .pinReset →
    (∃ t, runCommands [.saveWriteEnd .readBackEqual, reset, .settingsSettled] s = .next t ∧
      t.sst.settings = v.snapshot ∧ t.sst.source = v.area.source ∧ copyRecord t.sst v.area = some v.generation ∧
      t.sst.saving = none) ∧
    ∃ t, runCommands [reset, .settingsSettled] s = .next t ∧ t.sst.saving = none ∧ copyRecord t.sst v.area = none ∧
      (∀ c, validCopy (areaCopy s.sst v.area.other) = some c →
        t.sst.settings = c.settings ∧ t.sst.source = v.area.other.source) ∧
      (validCopy (areaCopy s.sst v.area.other) = none → t.sst.settings = defaultSettings ∧ t.sst.source = .defaults)

/-- DEFAULTS puts the default settings in force with source DEFAULTS, resets the entry of each port whose kind changes, makes
each changed region UNCHECKED, and replies "+903"; it is judged 111, 902, 121 in that order; nothing else changes (R72, R165; the
mark of a rate switch is notes/assumptions/23.md). -/
def Obligations.DefaultsReplacesTheSettings : Prop :=
  ∀ (tag : Option Tag) (args : List Text) (as : List Arg) (s : State), classifyWords args = .inr as → requestTaken s.toPart →
    inManual s.toPart →
    (as ≠ [] → Yields (.defaults tag args) s (refuses 111 tag s.toPart)) ∧
    (as = [] → s.sst.saving ≠ none → Yields (.defaults tag args) s (refuses 902 tag s.toPart)) ∧
    (as = [] → s.sst.saving = none →
      (s.sup.slot ≠ none → s.sst.settings.kinds ≠ defaultSettings.kinds ∨ s.sst.settings.map ≠ defaultSettings.map →
        Yields (.defaults tag args) s (refuses 121 tag s.toPart)) ∧
      (s.sup.slot = none ∨
          (s.sst.settings.kinds = defaultSettings.kinds ∧ s.sst.settings.map = defaultSettings.map) →
        YieldsSome (.defaults tag args) s fun t =>
          t.sst = { s.sst with settings := defaultSettings, source := .defaults } ∧
          t.spc.sense = s.spc.sense ∧
          (∀ port, entryOf t port = (entryOf s.toPart port).map fun e =>
            if s.sst.settings.kinds.get port = defaultSettings.kinds.get port then e
            else freshEntry (defaultSettings.kinds.get port) (s.spc.sense.get port)) ∧
          (∀ i, t.mmp.health.get i =
            if s.sst.settings.map.get i = defaultSettings.map.get i then s.mmp.health.get i else .unchecked) ∧
          t.mmp.txn = s.mmp.txn ∧ t.sre = s.sre ∧ t.mck = s.mck ∧ t.ldr = s.ldr ∧ t.rlu = s.rlu ∧ t.sup = s.sup ∧
          t.tgt = s.tgt ∧
          (s.con.rate = 38400 →
            t.con =
              (if s.con.pendingRate = none then s.con else { unmarkRate s.con with pendingRate := none }).answered
                { record := some (accepted 903 tag []) }) ∧
          (s.con.rate ≠ 38400 →
            t.con =
              { unmarkRate s.con with pendingRate := some 38400 }.answered
                { record := some (accepted 903 tag []), rateSwitch := true })))

/-! ### Source ports -/

/-- PROBE and VOLUME take the slot and begin one PROBE exchange on the unit; PROBE first sets the port's count to 0 and clears a
FAULT with notice 204. A unit that no exchange reaches is answered at once and the slot is given back. Both are judged 111, 112,
121 in that order (R1, R7, R21, R35). -/
def Obligations.ProbeAndVolumeBeginAnExchange : Prop :=
  (PortKind.timeoutMs .flash = 20 ∧ PortKind.timeoutMs .card = 200 ∧ PortKind.timeoutMs .block = 1000 ∧
    PortKind.timeoutMs .link = 3000 ∧ PortKind.units .unused = 0 ∧ PortKind.units .flash = 1 ∧ PortKind.units .card = 1 ∧
    PortKind.units .block = 8 ∧ PortKind.units .link = 4) ∧
  ∀ (tag : Option Tag) (args : List Text) (as : List Arg) (s : State), classifyWords args = .inr as → requestTaken s.toPart →
    inManual s.toPart →
    ((∀ x u, as ≠ [.num x, .num u]) →
      Yields (.probe tag args) s (refuses 111 tag s.toPart) ∧ Yields (.volume tag args) s (refuses 111 tag s.toPart)) ∧
    ∀ x u, as = [.num x, .num u] →
      (3 < x ∨ 7 < u →
        Yields (.probe tag args) s (refuses 112 tag s.toPart) ∧ Yields (.volume tag args) s (refuses 112 tag s.toPart)) ∧
      (x ≤ 3 → u ≤ 7 → s.sup.slot ≠ none →
        Yields (.probe tag args) s (refuses 121 tag s.toPart) ∧ Yields (.volume tag args) s (refuses 121 tag s.toPart)) ∧
      ∀ port e cleared q, Port.ofNat? x = some port → u ≤ 7 → s.sup.slot = none → entryOf s.toPart port = some e →
        cleared = (if e.state = .fault then { e with state := .idle, count := 0 } else { e with count := 0 }) →
        q = (if e.state = .fault then raise 204 none [.num x] s.toPart else s.toPart) →
        (u < e.kind.units → (e.kind = .card → e.cardPresent = true) →
          Yields (.probe tag args) s
            (slotTaken .probe tag (some (.probe tag port u)) (setEntry port (probing cleared u .probeVerb) q)) ∧
          (e.state ≠ .fault →
            Yields (.volume tag args) s
              (slotTaken .volume tag (some (.volume tag port u none))
                (setEntry port (probing e u .volumeVerb) s.toPart)))) ∧
        (u < e.kind.units → e.state = .fault →
          Yields (.volume tag args) s
            (slotGivenBack (answers (multiLine tag [[.num x, .num u, .word "NOT-READY"]]) s.toPart))) ∧
        (e.kind.units ≤ u →
          Yields (.probe tag args) s
            (slotGivenBack (answers (accepted 0 tag [.num x, .num u, .word "ABSENT"]) (setEntry port cleared q))) ∧
          Yields (.volume tag args) s
            (slotGivenBack (answers (multiLine tag [[.num x, .num u, .word "NOT-PRESENT"]]) s.toPart))) ∧
        (u < e.kind.units → e.kind = .card → e.cardPresent = false →
          Yields (.probe tag args) s
            (slotGivenBack (answers (accepted 0 tag [.num x, .num u, .word "ABSENT"])
              (setEntry port { cleared with units := e.units.set u ⟨.absent, .notReady, none⟩ } q))) ∧
          (e.state ≠ .fault →
            Yields (.volume tag args) s
              (slotGivenBack (answers (multiLine tag [[.num x, .num u, .word "NOT-PRESENT"]])
                (setEntry port { e with units := e.units.set u ⟨.absent, .notReady, none⟩ } s.toPart)))))

/-- The answer of a FLASH, CARD or BLOCK device to the exchange of a PROBE verb: the unit record it leaves, the count 0, the
port IDLE, the reply with the result, and the slot given back; nothing else changes (R3, R7, R11, R14, R16, R17, R21). The same
for every requester, of a PROBE and of a READ: an attempt of a search or of BOOT and STAGE goes on to the READ of block 0, to
the outcome that the result or the classification gives, to a question or to the load; VOLUME goes on or replies; a load writes
the block's first word or fails (R35, R36, R45 to R48, R52, R101, R105, R114, R131). That an answer which comes while an
exchange is in flight is its own is the model's choice (notes/assumptions/28.md). -/
def Obligations.DeviceAnswersEndAProbe : Prop :=
  (∀ (s : State) (port : Port) (e : PortEntry) (f : InFlight) (tag : Option Tag) (u : Nat) (c : Instr) (r : UnitRecord)
     (fields : List Field),
     entryOf s.toPart port = some e → e.op = some f → f.op = .probe → f.unit = u → f.requester = .probeVerb →
     s.sup.verbRun = some (.probe tag port u) → s.con.replies = [] →
     ((e.kind = .flash ∧ ∃ b0 b1 b2, c = .flashExchangeEnd port (.identify b0 b1 b2) ∧
         (((b0 = 0 ∧ b1 = 0 ∧ b2 = 0 ∨ b0 = 0xFF ∧ b1 = 0xFF ∧ b2 = 0xFF) ∧ r = ⟨.absent, .notReady, none⟩ ∧
             fields = [.word "ABSENT"]) ∨
           (0x10 ≤ b2.toNat ∧ b2.toNat ≤ 0x1F ∧ r = ⟨.present, .ready, some (2 ^ b2.toNat / 512)⟩ ∧
             fields = [.word "READY", .num (2 ^ b2.toNat / 512)]) ∨
           (¬ (b0 = 0 ∧ b1 = 0 ∧ b2 = 0) ∧ ¬ (b0 = 0xFF ∧ b1 = 0xFF ∧ b2 = 0xFF) ∧ (b2.toNat < 0x10 ∨ 0x1F < b2.toNat) ∧
             r = ⟨.present, .notReady, none⟩ ∧ fields = [.word "NOT-READY"]))) ∨
       (e.kind = .card ∧
         ((∃ cap, c = .cardExchangeEnd port (.initialized cap) ∧ cap ≠ 0 ∧ r = ⟨.present, .ready, some cap.toNat⟩ ∧
             fields = [.word "READY", .num cap.toNat]) ∨
           (c ∈ [.cardExchangeEnd port (.initialized 0), .cardExchangeEnd port .rejected,
               .cardExchangeEnd port .stillInitializing] ∧
             r = ⟨.present, .notReady, none⟩ ∧ fields = [.word "NOT-READY"]))) ∨
       (e.kind = .block ∧
         ((∃ cap, c = .blockExchangeEnd port (.readyCapacity cap) ∧ cap ≠ 0 ∧ r = ⟨.present, .ready, some cap.toNat⟩ ∧
             fields = [.word "READY", .num cap.toNat]) ∨
           (c = .blockExchangeEnd port .noUnit ∧ r = ⟨.absent, .notReady, none⟩ ∧ fields = [.word "ABSENT"]) ∨
           (c ∈ [.blockExchangeEnd port (.readyCapacity 0), .blockExchangeEnd port .spinningUp,
               .blockExchangeEnd port .unitError, .blockExchangeEnd port .otherStatus] ∧
             r = ⟨.present, .notReady, none⟩ ∧ fields = [.word "NOT-READY"])))) →
     Yields c s
       (slotGivenBack (answers (accepted 0 tag ([.num port.num, .num u] ++ fields))
         (setEntry port { e with count := 0, state := .idle, op := none, units := e.units.set u r } s.toPart)))) ∧
  ∀ (s : State) (port : Port) (e : PortEntry) (f : InFlight) (c : Instr) (u : UnitRecord),
    entryOf s.toPart port = some e → e.op = some f → e.units[f.unit]? = some u →
    (∀ r, f.op = .probe → probeAnswer e.kind port c r →
      YieldsSome c s
        (probeDelivered f.requester port f.unit r (setEntry port (portFreed e 0 f.unit (probedUnit r u)) s.toPart))) ∧
    ∀ block retries made r v, f.op = .read block retries made → readAnswer e.kind port block c u r v →
      YieldsSome c s (readDelivered f.requester port f.unit r (setEntry port (portFreed e 0 f.unit v) s.toPart))

/-- The serial line of a LINK port: the timer starts when the request has been sent, bytes are kept until they make a frame,
and a frame ends the exchange of a PROBE verb with the result its type and payload give (R3, R7, R18, R19). The same for every
requester, of a PROBE and of a READ, whose bad answers are retried (R9, R35, R45, R105, R114). Bytes after a frame go to the
request then outstanding, a retry or the requester's next, and with none outstanding they are discarded (R18). That the bytes
of a frame may come in pieces is the model's choice (notes/assumptions/12.md). -/
def Obligations.LinkAnswersEndAProbe : Prop :=
  (∀ (s : State) (port : Port) (e : PortEntry) (f : InFlight), entryOf s.toPart port = some e → e.op = some f → e.kind = .link →
     (f.timer = none →
       Yields (.linkRequestSent port) s (setEntry port { e with op := some { f with timer := some 3000 } } s.toPart)) ∧
     ∀ bytes,
       (assemble (f.received ++ bytes) = .incomplete →
         Yields (.linkAnswerFrame port bytes) s
           (setEntry port { e with op := some { f with received := f.received ++ bytes } } s.toPart)) ∧
       ∀ (tag : Option Tag) (u : Nat) (r : UnitRecord) (fields : List Field) (done : Part),
         f.op = .probe → f.unit = u → f.requester = .probeVerb → s.sup.verbRun = some (.probe tag port u) →
         s.con.replies = [] →
         done = slotGivenBack (answers (accepted 0 tag ([.num port.num, .num u] ++ fields))
           (setEntry port { e with count := 0, state := .idle, op := none, units := e.units.set u r } s.toPart)) →
         (assemble (f.received ++ bytes) = .malformed → r = ⟨.present, .notReady, none⟩ → fields = [.word "NOT-READY"] →
           Yields (.linkAnswerFrame port bytes) s done) ∧
         ∀ x, assemble (f.received ++ bytes) = .frame x →
           (x.crcHolds = true → x.slot = u → x.type = 0x81 → x.payload.length = 4 → leValue x.payload ≠ 0 →
             r = ⟨.present, .ready, some (leValue x.payload)⟩ → fields = [.word "READY", .num (leValue x.payload)] →
             Yields (.linkAnswerFrame port bytes) s done) ∧
           (x.crcHolds = true → x.slot = u → x.type = 0x84 → r = ⟨.absent, .notReady, none⟩ → fields = [.word "ABSENT"] →
             Yields (.linkAnswerFrame port bytes) s done) ∧
           (x.crcHolds = false ∨ x.slot ≠ u ∨ (x.type ≠ 0x81 ∧ x.type ≠ 0x84) ∨
               (x.type = 0x81 ∧ (x.payload.length ≠ 4 ∨ leValue x.payload = 0)) →
             r = ⟨.present, .notReady, none⟩ → fields = [.word "NOT-READY"] → Yields (.linkAnswerFrame port bytes) s done)) ∧
  (∀ (s : State) (port : Port) (first rest : List Byte), first ≠ [] →
    (∀ e f, entryOf s.toPart port = some e → e.op = some f → e.kind = .link →
      (∀ n, n < first.length → assemble (f.received ++ first.take n) = .incomplete) →
      assemble (f.received ++ first) ≠ .incomplete →
      ∀ p, Yields (.linkAnswerFrame port first) s p →
        (∀ e' f', entryOf p port = some e' → e'.op = some f' → f'.received = []) →
        exec (.linkAnswerFrame port (first ++ rest)) s = exec (.linkAnswerFrame port rest) { s with toPart := p }) ∧
    ((∀ e, entryOf s.toPart port = some e → e.op = none ∨ e.kind ≠ .link) →
      Yields (.linkAnswerFrame port first) s s.toPart)) ∧
  ∀ (s : State) (port : Port) (e : PortEntry) (f : InFlight) (u : UnitRecord) (bytes : List Byte),
    entryOf s.toPart port = some e → e.op = some f → e.kind = .link → e.units[f.unit]? = some u →
    (∀ n, n < bytes.length → assemble (f.received ++ bytes.take n) = .incomplete) →
    (∀ r, f.op = .probe →
      (assemble (f.received ++ bytes) = .malformed ∧ r = .notReady) ∨
        (∃ x, assemble (f.received ++ bytes) = .frame x ∧
          ((x.crcHolds = true ∧ x.slot = f.unit ∧ x.type = 0x81 ∧ x.payload.length = 4 ∧ leValue x.payload ≠ 0 ∧
              r = .ready (leValue x.payload)) ∨
            (x.crcHolds = true ∧ x.slot = f.unit ∧ x.type = 0x84 ∧ r = .absent) ∨
            ((x.crcHolds = false ∨ x.slot ≠ f.unit ∨ (x.type ≠ 0x81 ∧ x.type ≠ 0x84) ∨
              (x.type = 0x81 ∧ (x.payload.length ≠ 4 ∨ leValue x.payload = 0))) ∧ r = .notReady))) →
      YieldsSome (.linkAnswerFrame port bytes) s
        (probeDelivered f.requester port f.unit r (setEntry port (portFreed e 0 f.unit (probedUnit r u)) s.toPart))) ∧
    ∀ block retries made, f.op = .read block retries made →
      (∀ r v, (∃ x, assemble (f.received ++ bytes) = .frame x ∧ x.crcHolds = true ∧ x.slot = f.unit ∧
          ((x.type = 0x82 ∧ x.payload.length = 512 ∧ x.block = block ∧ r = .data x.payload ∧ v = u) ∨
            (x.type = 0x83 ∧ r = .notReady block ∧ v = ⟨u.presence, .notReady, none⟩) ∨
            (x.type = 0x84 ∧ r = .mediaLost block ∧ v = ⟨.unknown, .notReady, none⟩))) →
        YieldsSome (.linkAnswerFrame port bytes) s
          (readDelivered f.requester port f.unit r (setEntry port (portFreed e 0 f.unit v) s.toPart))) ∧
      (assemble (f.received ++ bytes) = .malformed ∨
          (∃ x, assemble (f.received ++ bytes) = .frame x ∧
            (x.crcHolds = false ∨ x.slot ≠ f.unit ∨ x.type ∉ [0x82, 0x83, 0x84] ∨
              (x.type = 0x82 ∧ (x.payload.length ≠ 512 ∨ x.block ≠ block)))) →
        (made < retries →
          Yields (.linkAnswerFrame port bytes) s
            (setEntry port (reading { e with count := 0 } f.unit block retries (made + 1) f.requester) s.toPart) ∧
          ∀ later, bytes ≠ [] →
            exec (.linkAnswerFrame port (bytes ++ later)) s =
              exec (.linkAnswerFrame port later)
                { s with toPart :=
                  setEntry port (reading { e with count := 0 } f.unit block retries (made + 1) f.requester) s.toPart }) ∧
        (retries ≤ made →
          YieldsSome (.linkAnswerFrame port bytes) s
            (readDelivered f.requester port f.unit (.readFault block) (setEntry port (portFreed e 0 f.unit u) s.toPart))))

/-- An answer frame, after any bytes that are not a start byte, assembles to itself, and no shorter piece of those bytes is a frame
(R18, R25). -/
def Obligations.AnswerFramesReadBack : Prop :=
  ∀ (junk : List Byte) (type slot block : Nat) (payload body : List Byte), (∀ b ∈ junk, b ≠ 0x7E) → type < 0x100 →
    slot < 0x100 → block < 0x100000000 → payload.length ∈ [0, 4, 512] →
    body = leBytes 1 type ++ leBytes 1 slot ++ leBytes 4 block ++ leBytes 2 payload.length ++ payload →
    assemble (junk ++ 0x7E :: body ++ leBytes 2 (crc16 body).toNat) = .frame ⟨type, slot, block, payload, true⟩ ∧
    ∀ n, n < junk.length + 1 + body.length + 2 →
      assemble ((junk ++ 0x7E :: body ++ leBytes 2 (crc16 body).toNat).take n) = .incomplete

/-- An exchange of a READ that fails with a retry left is made again: a timeout raises the port's count, an answer that is a
failure sets it to 0. A timeout of the exchange of a PROBE verb ends it with the reply TIMEOUT and the unit NOT-READY, and the
third timeout in a row puts the port in FAULT with notice 203 (R3, R6, R9, R11, R12). For every requester: a READ with no retry
left, or with the third timeout, ends with READ-FAULT, a timed-out PROBE with TIMEOUT, and the requester goes on from there
(R35, R45, R48, R105, R114). That a timer which does not run does not expire is the model's reading of such a command
(notes/assumptions/6.md). That an answer which comes while an exchange is in flight is its own is the model's choice
(notes/assumptions/28.md). -/
def Obligations.FailedExchangesRetryOrFault : Prop :=
  (∀ (s : State) (port : Port) (e : PortEntry) (f : InFlight), entryOf s.toPart port = some e → e.op = some f →
     (f.timer = none → Yields (.exchangeTimeout port) s s.toPart) ∧
     (∀ block retries made, f.op = .read block retries made → made < retries → f.unit < e.units.length →
       (∀ c, (∃ data, data.length = 512 ∧ c = .flashExchangeEnd port (.block data true) ∧ e.kind = .flash) ∨
           (c = .cardExchangeEnd port .errorMark ∧ e.kind = .card) ∨
           (c = .blockExchangeEnd port .unitError ∧ e.kind = .block) →
         Yields c s
           (setEntry port
             { e with
               count := 0
               state := .busy
               op := some ⟨.read block retries (made + 1), f.unit, f.requester, some e.kind.timeoutMs, [], []⟩ }
             s.toPart)) ∧
       (f.timer ≠ none → e.kind ≠ .link → e.count < 2 →
         Yields (.exchangeTimeout port) s
           (setEntry port
             { e with
               count := e.count + 1
               state := .busy
               op := some ⟨.read block retries (made + 1), f.unit, f.requester, some e.kind.timeoutMs, [], []⟩ }
             s.toPart))) ∧
     ∀ tag r, f.op = .probe → f.timer ≠ none → f.requester = .probeVerb → s.sup.verbRun = some (.probe tag port f.unit) →
       s.con.replies = [] → e.units[f.unit]? = some r →
       (e.count < 2 →
         Yields (.exchangeTimeout port) s
           (slotGivenBack (answers (accepted 0 tag [.num port.num, .num f.unit, .word "TIMEOUT"])
             (setEntry port
               { e with
                 count := e.count + 1
                 state := .idle
                 op := none
                 units := e.units.set f.unit ⟨r.presence, .notReady, none⟩ } s.toPart)))) ∧
       (2 ≤ e.count →
         Yields (.exchangeTimeout port) s
           (slotGivenBack (answers (accepted 0 tag [.num port.num, .num f.unit, .word "TIMEOUT"])
             (raise 203 none [.num port.num]
               (setEntry port
                 { e with
                   count := e.count + 1
                   state := .fault
                   op := none
                   units := e.units.set f.unit ⟨r.presence, .notReady, none⟩ } s.toPart)))))) ∧
  (∀ (s : State) (port : Port) (e : PortEntry) (f : InFlight) (block retries made : Nat), entryOf s.toPart port = some e →
    e.op = some f → f.op = .read block retries made → made < retries → f.unit < e.units.length →
    (∀ c, (e.kind = .card ∧ ∃ data, data.length = 512 ∧ c = .cardExchangeEnd port (.block data false)) ∨
        (e.kind = .block ∧ c = .blockExchangeEnd port .otherStatus) →
      Yields c s
        (setEntry port (reading { e with count := 0 } f.unit block retries (made + 1) f.requester) s.toPart)) ∧
    (e.kind = .link → f.timer ≠ none → e.count < 2 →
      Yields (.exchangeTimeout port) s
        (setEntry port (reading { e with count := e.count + 1 } f.unit block retries (made + 1) f.requester) s.toPart))) ∧
  ∀ (s : State) (port : Port) (e : PortEntry) (f : InFlight) (u : UnitRecord), entryOf s.toPart port = some e → e.op = some f →
    e.units[f.unit]? = some u →
    (∀ block retries made, f.op = .read block retries made →
      (∀ c, retries ≤ made →
        (∃ data, data.length = 512 ∧ c = .flashExchangeEnd port (.block data true) ∧ e.kind = .flash) ∨
          ((c = .cardExchangeEnd port .errorMark ∨ ∃ data, data.length = 512 ∧ c = .cardExchangeEnd port (.block data false)) ∧
            e.kind = .card) ∨
          ((c = .blockExchangeEnd port .unitError ∨ c = .blockExchangeEnd port .otherStatus) ∧ e.kind = .block) →
        YieldsSome c s
          (readDelivered f.requester port f.unit (.readFault block) (setEntry port (portFreed e 0 f.unit u) s.toPart))) ∧
      (f.timer ≠ none →
        (retries ≤ made → e.count < 2 →
          YieldsSome (.exchangeTimeout port) s
            (readDelivered f.requester port f.unit (.readFault block)
              (setEntry port (portFreed e (e.count + 1) f.unit u) s.toPart))) ∧
        (2 ≤ e.count →
          YieldsSome (.exchangeTimeout port) s
            (readDelivered f.requester port f.unit (.readFault block)
              (raise 203 none [.num port.num]
                (setEntry port { portFreed e (e.count + 1) f.unit u with state := .fault } s.toPart)))))) ∧
    (f.op = .probe → f.timer ≠ none →
      (e.count < 2 →
        YieldsSome (.exchangeTimeout port) s
          (probeDelivered f.requester port f.unit .timeout
            (setEntry port (portFreed e (e.count + 1) f.unit (probedUnit .timeout u)) s.toPart))) ∧
      (2 ≤ e.count →
        YieldsSome (.exchangeTimeout port) s
          (probeDelivered f.requester port f.unit .timeout
            (raise 203 none [.num port.num]
              (setEntry port { portFreed e (e.count + 1) f.unit (probedUnit .timeout u) with state := .fault } s.toPart)))))

/-- The sense input of a CARD port: a change begins a hold, the hold's end is an insert with notice 201, which ends a round
wait, or a removal with notice 202, which ends a PROBE with ABSENT and a READ with MEDIA-LOST, for every requester. Unit 0's
record becomes UNKNOWN, NOT-READY (R15, R16, R50). What a level means while a hold runs, and the order of the notice and the
result, are the model's reading (notes/assumptions/11.md). -/
def Obligations.CardEvents : Prop :=
  ∀ (s : State) (port : Port) (e : PortEntry), entryOf s.toPart port = some e →
    (∀ card, e.kind = .card →
      Yields (.cardSenseChange port card) s
        (setEntry port { e with hold := if e.cardPresent = card then none else some card }
          { s.toPart with spc := { s.spc with sense := s.spc.sense.set port card } })) ∧
    (∀ card, e.kind ≠ .card →
      Yields (.cardSenseChange port card) s { s.toPart with spc := { s.spc with sense := s.spc.sense.set port card } }) ∧
    (e.kind = .card → e.hold = some true → s.sre.run.map SearchRun.stage ≠ some .waiting →
      Yields (.cardInserted port) s
        (raise 201 none [.num port.num]
          (setEntry port { e with units := e.units.set 0 ⟨.unknown, .notReady, none⟩, cardPresent := true, hold := none }
            s.toPart))) ∧
    (e.kind = .card → e.hold = some true → s.sre.run.map SearchRun.stage = some .waiting →
      Yields (.cardInserted port) s
        (endRoundWait (raise 201 none [.num port.num]
          (setEntry port { e with units := e.units.set 0 ⟨.unknown, .notReady, none⟩, cardPresent := true, hold := none }
            s.toPart)))) ∧
    (e.kind = .card → e.hold = some false → e.op = none →
      Yields (.cardRemoved port) s
        (raise 202 none [.num port.num]
          (setEntry port { e with units := e.units.set 0 ⟨.unknown, .notReady, none⟩, cardPresent := false, hold := none }
            s.toPart))) ∧
    (∀ f tag, e.kind = .card → e.hold = some false → e.op = some f → f.op = .probe → f.unit = 0 → f.requester = .probeVerb →
      s.sup.verbRun = some (.probe tag port 0) → s.con.replies = [] →
      Yields (.cardRemoved port) s
        (slotGivenBack (answers (accepted 0 tag [.num port.num, .num 0, .word "ABSENT"])
          (raise 202 none [.num port.num]
            (setEntry port
              { e with
                units := e.units.set 0 ⟨.unknown, .notReady, none⟩
                cardPresent := false
                hold := none
                count := 0
                state := .idle
                op := none } s.toPart))))) ∧
    ∀ f removed, e.kind = .card → e.hold = some false → e.op = some f →
      removed = raise 202 none [.num port.num]
        (setEntry port { portFreed e 0 0 ⟨.unknown, .notReady, none⟩ with cardPresent := false, hold := none } s.toPart) →
      (f.op = .probe →
        YieldsSome (.cardRemoved port) s (probeDelivered f.requester port f.unit .absent removed)) ∧
      ∀ block retries made, f.op = .read block retries made →
        YieldsSome (.cardRemoved port) s (readDelivered f.requester port f.unit (.mediaLost block) removed)

/-! ### Memory port and memory check -/

/-- PEEK and POKE take the slot and send out their first transaction when the memory port takes it, and are refused in the order
their rules give; a refused POKE has held the slot no longer than its reply (R75, R78, R80). -/
def Obligations.PeekAndPokeRequestTransactions : Prop :=
  ∀ (tag : Option Tag) (args : List Text) (as : List Arg) (s : State), classifyWords args = .inr as → requestTaken s.toPart →
    inManual s.toPart →
    ((∀ a n, as ≠ [.num a] ∧ as ≠ [.num a, .num n]) → Yields (.peek tag args) s (refuses 111 tag s.toPart)) ∧
    (∀ a n, (as = [.num a] ∧ n = 1) ∨ as = [.num a, .num n] →
      (n < 1 ∨ 16 < n → Yields (.peek tag args) s (refuses 112 tag s.toPart)) ∧
      (1 ≤ n → n ≤ 16 →
        (s.sup.slot ≠ none → Yields (.peek tag args) s (refuses 121 tag s.toPart)) ∧
        (s.sup.slot = none → s.rlu.treset = .freed → Yields (.peek tag args) s (refuses 605 tag s.toPart)) ∧
        (s.sup.slot = none → s.rlu.treset = .asserted →
          (a % 4 ≠ 0 → Yields (.peek tag args) s (refuses 112 tag s.toPart)) ∧
          (a % 4 = 0 → (∃ k, k < n ∧ ¬ mapped s.sst.settings.map (a + 4 * k)) →
            Yields (.peek tag args) s (refuses 601 tag s.toPart)) ∧
          (a % 4 = 0 → (∀ k, k < n → mapped s.sst.settings.map (a + 4 * k)) →
            Yields (.peek tag args) s
              (slotTaken .peek tag (some (.peek tag a n [])) (inFlight .read a .peek s.toPart)))))) ∧
    ((∀ a v, as ≠ [.num a, .num v]) → Yields (.poke tag args) s (refuses 111 tag s.toPart)) ∧
    ∀ a v, as = [.num a, .num v] →
      (s.sup.slot ≠ none → Yields (.poke tag args) s (refuses 121 tag s.toPart)) ∧
      (s.sup.slot = none → s.rlu.treset = .freed → Yields (.poke tag args) s (refuses 605 tag (slotGivenBack s.toPart))) ∧
      (s.sup.slot = none → s.rlu.treset = .asserted →
        (a % 4 ≠ 0 → Yields (.poke tag args) s (refuses 112 tag (slotGivenBack s.toPart))) ∧
        (a % 4 = 0 →
          (¬ mapped s.sst.settings.map a → Yields (.poke tag args) s (refuses 601 tag (slotGivenBack s.toPart))) ∧
          ∀ i r, regionAt s.sst.settings.map a = some i → s.sst.settings.map.get i = some r →
            (r.preserve = true → Yields (.poke tag args) s (refuses 604 tag (slotGivenBack s.toPart))) ∧
            (r.preserve = false →
              Yields (.poke tag args) s
                (slotTaken .poke tag (some (.poke tag)) (inFlight (.write (BitVec.ofNat 32 v)) a .poke s.toPart)))))

/-- The end of a POKE's write, and of a PEEK's reads one after another: the outcome of MRDY, MERR or the response limit gives
the reply, and the slot is given back; with neither line asserted a POKE waits on (R76, R79, R80). That a response which comes
while a transaction is in flight is its own is the model's choice (notes/assumptions/28.md). -/
def Obligations.PeekAndPokeEndWithTheirOutcomes : Prop :=
  ∀ (s : State) (a : Nat) (tag : Option Tag) (w : Word32), s.con.replies = [] →
    (∀ x, s.mmp.txn = some ⟨.write x, a, .poke⟩ → s.sup.verbRun = some (.poke tag) →
      Yields (.memoryResponse true false w) s
        (slotGivenBack (answersOk tag { s.toPart with mmp := { s.mmp with txn := none } })) ∧
      (∀ mrdy, Yields (.memoryResponse mrdy true w) s
        (slotGivenBack (refuses 603 tag { s.toPart with mmp := { s.mmp with txn := none } }))) ∧
      Yields .responseTimeout s (slotGivenBack (refuses 602 tag { s.toPart with mmp := { s.mmp with txn := none } })) ∧
      Yields (.memoryResponse false false w) s s.toPart) ∧
    ∀ left words c x, s.mmp.txn = some ⟨.read, a, .peek⟩ → s.sup.verbRun = some (.peek tag a left words) →
      s.sup.abortPending = false →
      ((c = .memoryResponse true false w ∧ x = .word w) ∨ ((∃ mrdy, c = .memoryResponse mrdy true w) ∧ x = .code 603) ∨
        (c = .responseTimeout ∧ x = .code 602)) →
      (left = 1 →
        Yields c s
          (slotGivenBack (answers
            (multiLine tag ((words ++ [(a, x)]).map fun y =>
              [.num y.1, match y.2 with | .word v => .num v.toNat | .code k => .code k]))
            { s.toPart with mmp := { s.mmp with txn := none } }))) ∧
      ∀ n, left = n + 2 → judgeTxn .read (a + 4) s.toPart = none →
        Yields c s
          (inFlight .read (a + 4) .peek
            { s.toPart with sup := { s.sup with verbRun := some (.peek tag (a + 4) (n + 1) (words ++ [(a, x)])) } })

/-- CHECK is judged 111, 112, 122, 121 in that order; one that passes takes the slot, replies "+000", empties the defect list,
raises notice 500 and sends out the first transaction of the first region: a READ for kind READ and for a PRESERVE region,
otherwise the write of the address, before which a loaded image is discarded (R82, R83, R86, R87, R92). That STOP is the fourth
argument alone, so that CHECK QUICK STOP is refused with 111, is the model's reading (notes/assumptions/13.md). -/
def Obligations.CheckBeginsWithItsFirstWord : Prop :=
  ∀ (tag : Option Tag) (args : List Text) (as : List Arg) (s : State), classifyWords args = .inr as → requestTaken s.toPart →
    inManual s.toPart →
    ((∀ kind scope n stop, ¬ checkForm as kind scope n stop) → Yields (.check tag args) s (refuses 111 tag s.toPart)) ∧
    ∀ kind scope n stop, checkForm as kind scope n stop →
      ((∃ i, scope = .index i ∧ (i < 1 ∨ 8 < i)) ∨ 0xFF < n → Yields (.check tag args) s (refuses 112 tag s.toPart)) ∧
      ∀ regions : List Idx,
        (scope = .all ∧ regions = Idx.all.filter fun i => (s.sst.settings.map.get i).isSome) ∨
          (∃ k i, scope = .index k ∧ Idx.ofNat? k = some i ∧
            regions = if (s.sst.settings.map.get i).isSome then [i] else []) →
        n ≤ 0xFF →
        (regions = [] → Yields (.check tag args) s (refuses 122 tag s.toPart)) ∧
        (regions ≠ [] → s.sup.slot ≠ none → Yields (.check tag args) s (refuses 121 tag s.toPart)) ∧
        ∀ i rest g effective, regions = i :: rest → s.sup.slot = none → s.sst.settings.map.get i = some g →
          mapSound s.sst.settings.map = true → s.rlu.treset = .asserted →
          effective = (if g.preserve then .read else kind) →
          YieldsSome (.check tag args) s fun t =>
            t.sup = { s.sup with mode := .manual (some .check), slot := some (.verb .check tag), verbRun := none } ∧
            t.mck =
              { run := some
                  { origin := .verb, tag := tag, asked := kind, regions := regions, passes := n, stop := stop, pass := 1,
                    current := i, effective := effective, phase := if effective = .read then 0 else 1, cursor := g.base,
                    written := decide (effective ≠ .read), marks := [], firstRead := none }
                defects := []
                dropped := 0 } ∧
            t.mmp =
              { s.mmp with
                txn := some ⟨if effective = .read then .read else .write (BitVec.ofNat 32 g.base), g.base, .checker⟩ } ∧
            t.ldr =
              (if effective ≠ .read ∧ (s.ldr.image = .partly ∨ s.ldr.image = .staged) then
                { s.ldr with image := .nothing, plan := none } else s.ldr) ∧
            t.con = (raise 500 tag [.word kind.name, scope.field, .num n] (answersOk tag s.toPart)).con ∧
            t.spc = s.spc ∧ t.sre = s.sre ∧ t.rlu = s.rlu ∧ t.sst = s.sst ∧ t.tgt = s.tgt

/-- A defect met by a CHECK under STOP: it joins the defect list or is counted, the region is DEFECTIVE, notice 502 names STOP,
and the run ends with the slot given back (R83, R84, R90, R93, R94). Without STOP, and after a good word, the check goes on:
the second READ of a word, the next word of the word set, the next phase, the health of the region and the next one, notice 501
and the next pass, and after the last pass notice 502 and the end, which for an automatic check is the search or, with a marked
region under CHECKFAIL HALT, HALTED (R82 to R84, R89 to R92, R94). That a response which comes while a transaction is in flight
is its own is the model's choice (notes/assumptions/28.md). -/
def Obligations.StopEndsACheckAtItsDefect : Prop :=
  (∀ (s : State) (r : CheckRun) (kind : TxnKind) (c : Instr) (d : Defect), s.mck.run = some r → r.stop = true →
     r.origin = .verb → s.sup.abortPending = false → s.mmp.txn = some ⟨kind, r.cursor, .checker⟩ →
     ((c = .responseTimeout ∧ d = ⟨r.cursor, .noResponse, none, none, r.pass⟩) ∨
       ((∃ mrdy w, c = .memoryResponse mrdy true w) ∧ d = ⟨r.cursor, .busError, none, none, r.pass⟩) ∨
       (∃ w x, kind = .read ∧ c = .memoryResponse true false w ∧ r.effective = .read ∧ r.firstRead = some x ∧ w ≠ x ∧
         d = ⟨r.cursor, .unstable, none, some w, r.pass⟩) ∨
       ∃ w x, kind = .read ∧ c = .memoryResponse true false w ∧ r.effective ≠ .read ∧
         ((r.phase = 2 ∧ x = BitVec.ofNat 32 r.cursor) ∨ (r.phase = 4 ∧ x = ~~~BitVec.ofNat 32 r.cursor)) ∧ w ≠ x ∧
         d = ⟨r.cursor, .mismatch, some x, some w, r.pass⟩) →
     ∀ m : Mck, m =
         (if s.mck.defects.length < 16 then { s.mck with defects := s.mck.defects ++ [d], run := none }
         else { s.mck with dropped := if s.mck.dropped < 0xFFFF then s.mck.dropped + 1 else s.mck.dropped, run := none }) →
       Yields c s
         (slotGivenBack
           (raise 502 r.tag [.num r.pass, .num (min 0xFFFF (m.defects.length + m.dropped)), .word "STOP"]
             { s.toPart with mck := m, mmp := { health := s.mmp.health.set r.current .defective, txn := none } }))) ∧
  ∀ (s : State) (r : CheckRun) (c : Instr), s.mck.run = some r → s.sup.abortPending = false →
    s.mmp.txn = some ⟨checkWord r.phase r.cursor, r.cursor, .checker⟩ → (r.effective = .read → r.phase = 0) →
    (∀ w, c = .memoryResponse true false w → r.effective = .read → r.firstRead = none →
      judgeTxn .read r.cursor s.toPart = none → Yields c s (checks { r with firstRead := some w } s.toPart)) ∧
    ∀ d, checkFinds r c d → d = none ∨ r.stop = false →
      YieldsSome c s
        (checkGoesOn (marked d r)
          { s.toPart with mck := defectKept d s.mck, mmp := { s.mmp with txn := none } })

/-! ### Volumes and loading -/

/-- A volume classified BOOTABLE carries an image whose every segment is word-aligned, of whole words, lies in one LOAD region that is
not DEFECTIVE and overlaps no other segment; whose handoff range, if any, lies so too; and whose entry lies in a segment (R29 to
R33). -/
def Obligations.BootableImagesFitTheMap : Prop :=
  ∀ (rq : ClassifyRequest) (v : MapView) (rawbase rawblocks : Nat), rawbase % 0x1000 = 0 → 1 ≤ rawblocks →
    (classify rq v rawbase rawblocks).volume = .bootable →
    ∃ i, (classify rq v rawbase rawblocks).image = some i ∧ 1 ≤ i.segments.length ∧ i.segments.length ≤ 8 ∧
      (∀ g ∈ i.segments, g.target % 4 = 0 ∧ g.length % 4 = 0 ∧ 4 ≤ g.length ∧
        ∃ r, v.map.get g.region = some r ∧ r.load = true ∧ r.base ≤ g.target ∧ g.target + g.length ≤ r.base + r.size ∧
          v.health.get g.region ≠ .defective) ∧
      i.segments.Pairwise (fun g h => g.target + g.length ≤ h.target ∨ h.target + h.length ≤ g.target) ∧
      (∃ g ∈ i.segments, g.target ≤ i.entry ∧ i.entry < g.target + g.length) ∧
      ∀ h, i.handoff = some h → h % 4 = 0 ∧ ∃ j r, v.map.get j = some r ∧ r.load = true ∧ r.base ≤ h ∧
        h + 64 ≤ r.base + r.size ∧ v.health.get j ≠ .defective ∧
        ∀ g ∈ i.segments, h + 64 ≤ g.target ∨ g.target + g.length ≤ h

/-- LDR writes a FILL segment as zero words, one for each word address from the target address up to the last, in ascending
order, each after the outcome DONE of the one before; after the last it begins a FILL segment of the next index. A fault of a
word ends the load of a STAGE with MEMORY-FAULT, that address as the detail and its region DEFECTIVE (R102, R106). So for every
requester, and in every stage: a DATA segment word by word and block by block with its running CRC, compared at its end,
DAMAGED on a mismatch (R103, R104); the read-back of each DATA segment when VERIFY is ON, MEMORY-FAULT on a mismatch (R107);
the 16 words of the handoff record, which is then kept (R108); and the end with STAGED, the LOADED record, and notice 701 or
the release (R109, R110). That a response which comes while a transaction is in flight is its own is the model's choice
(notes/assumptions/28.md). -/
def Obligations.FillSegmentsAreWrittenWordByWord : Prop :=
  (∀ (s : State) (plan : LoadPlan) (cur : LoadCursor) (g : Segment) (w : Word32),
     s.ldr.plan = some plan → plan.cursor = some cur → cur.stage = .write → segmentAt cur.segment plan.image = some g →
     g.source = none → s.mmp.txn = some ⟨.write 0, cur.address, .loader⟩ → s.sup.abortPending = false →
     (cur.address + 4 < g.target + g.length → judgeTxn (.write 0) (cur.address + 4) s.toPart = none →
       Yields (.memoryResponse true false w) s
         (inFlight (.write 0) (cur.address + 4) .loader
           { s.toPart with ldr :=
             { s.ldr with plan := some { plan with cursor := some { cur with address := cur.address + 4 } } } })) ∧
     (g.target + g.length ≤ cur.address + 4 → ∀ next, segmentAt (g.index + 1) plan.image = some next → next.source = none →
       judgeTxn (.write 0) next.target s.toPart = none →
       Yields (.memoryResponse true false w) s
         (inFlight (.write 0) next.target .loader
           { s.toPart with ldr :=
             { s.ldr with
               plan := some { plan with cursor := some ⟨.write, g.index + 1, 0, next.target, 0xFFFFFFFF, [], []⟩ } } })) ∧
     ∀ i c, regionAt s.sst.settings.map cur.address = some i → plan.requester = .stage →
       c = .responseTimeout ∨ (∃ mrdy, c = .memoryResponse mrdy true w) →
       Yields c s
         (slotGivenBack
           (raise 702 plan.tag
             [.num plan.image.port.num, .num plan.image.unit, .word "MEMORY-FAULT", .word "DETAIL", .num cur.address]
             (records plan.tag plan.fields .memoryFault (some cur.address) (some plan.image.imageId)
               { s.toPart with mmp := { health := s.mmp.health.set i .defective, txn := none } })))) ∧
  ∀ (s : State) (plan : LoadPlan) (cur : LoadCursor) (kind : TxnKind) (w : Word32) (freed : Part),
    s.ldr.plan = some plan → plan.cursor = some cur → s.mmp.txn = some ⟨kind, cur.address, .loader⟩ → s.sup.abortPending = false →
    freed = { s.toPart with mmp := { s.mmp with txn := none } } →
    (∀ c i, c = .responseTimeout ∨ (∃ mrdy, c = .memoryResponse mrdy true w) → regionAt s.sst.settings.map cur.address = some i →
      YieldsSome c s
        (loadFails plan .memoryFault cur.address
          { s.toPart with mmp := { health := s.mmp.health.set i .defective, txn := none } })) ∧
    (∀ g, segmentAt cur.segment plan.image = some g → g.index = cur.segment →
      (cur.stage = .write → g.source = none → g.target + g.length ≤ cur.address + 4 →
        YieldsSome (.memoryResponse true false w) s (segmentFollows g.index plan freed)) ∧
      (∀ b later, cur.stage = .write → g.source = some b → kind = .write (bytesWord cur.buffer) →
        later = { cur with
          address := cur.address + 4, crc := crc32Run cur.crc (cur.buffer.take 4), buffer := cur.buffer.drop 4 } →
        (cur.address + 4 < g.target + g.length →
          (later.buffer ≠ [] → judgeTxn (.write (bytesWord later.buffer)) later.address s.toPart = none →
            Yields (.memoryResponse true false w) s
              (inFlight (.write (bytesWord later.buffer)) later.address .loader (planAt plan later s.toPart))) ∧
          ∀ e, later.buffer = [] → entryOf s.toPart plan.image.port = some e → readable e plan.image.unit cur.block →
            Yields (.memoryResponse true false w) s
              (setEntry plan.image.port (reading e plan.image.unit cur.block s.sst.settings.retries 0 .loader)
                (planAt plan later freed))) ∧
        (g.target + g.length ≤ cur.address + 4 →
          ∀ value done, value = crc32Final later.crc → done = { plan with written := plan.written ++ [(g.index, value)] } →
            (g.crc = none ∨ g.crc = some value →
              YieldsSome (.memoryResponse true false w) s (segmentFollows g.index done freed)) ∧
            ∀ x, g.crc = some x → x ≠ value →
              YieldsSome (.memoryResponse true false w) s (loadFails done .damaged g.index (planAt done later freed)))) ∧
      ∀ later value, cur.stage = .verify → kind = .read →
        later = { cur with address := cur.address + 4, crc := crc32Run cur.crc (leBytes 4 w.toNat) } →
        (plan.written.find? fun y => y.1 = g.index) = some (g.index, value) →
        (cur.address + 4 < g.target + g.length → judgeTxn .read later.address s.toPart = none →
          Yields (.memoryResponse true false w) s (inFlight .read later.address .loader (planAt plan later s.toPart))) ∧
        (g.target + g.length ≤ cur.address + 4 →
          (crc32Final later.crc = value →
            YieldsSome (.memoryResponse true false w) s (readBackFollows g.index plan freed)) ∧
          ∀ i, crc32Final later.crc ≠ value → regionAt s.sst.settings.map g.target = some i →
            YieldsSome (.memoryResponse true false w) s
              (loadFails plan .memoryFault g.target
                (planAt plan later
                  { s.toPart with mmp := { health := s.mmp.health.set i .defective, txn := none } })))) ∧
    ∀ h rest, cur.stage = .handoff → plan.image.handoff = some h → rest = cur.buffer.drop 4 →
      (rest ≠ [] → judgeTxn (.write (bytesWord rest)) (cur.address + 4) s.toPart = none →
        Yields (.memoryResponse true false w) s
          (inFlight (.write (bytesWord rest)) (cur.address + 4) .loader
            (planAt plan { cur with address := cur.address + 4, buffer := rest } s.toPart))) ∧
      (rest = [] →
        YieldsSome (.memoryResponse true false w) s
          (loadCompletes plan { freed with ldr := { s.ldr with handoff := some ⟨h, cur.record⟩ } }))

/-- The handoff record is 64 bytes that end in the CRC-32 of the other 60, and the HAND reply read from them gives the fields they
were built from (R24, R108, R127). -/
def Obligations.HandoffRecordsReadBack : Prop :=
  ∀ (plan : LoadPlan) (p : Part) (a : Nat) (label : List Byte), plan.image.label = some label → label.length = 12 →
    plan.fields.unit ≤ 7 → p.sre.nextSeq ≤ 0xFFFF →
    (handoffRecord plan p).length = 64 ∧
    field (handoffRecord plan p) 60 4 = (crc32 ((handoffRecord plan p).take 60)).toNat ∧
    (handoffRecord plan p).take 4 = [0x45, 0x4B, 0x48, 0x31] ∧
    handFields ⟨a, handoffRecord plan p⟩ =
      [.num a, .word "REASON",
        .word (match plan.reason with
          | .auto => "AUTO" | .manualBoot => "MANUAL-BOOT" | .manualGo => "MANUAL-GO" | .fallback => "FALLBACK"),
        .word "PORT", .num plan.fields.port.num, .word "UNIT", .num plan.fields.unit, .word "KIND",
        .word plan.image.kind.name, .word "ID", .num plan.image.imageId.toNat, .word "SEQ", .num p.sre.nextSeq,
        .word "COUNT", .num (if p.sre.releaseCount < 0xFF then p.sre.releaseCount + 1 else p.sre.releaseCount % 0x100),
        .word "DEFECTS", .num (min 0xFFFF (p.mck.defects.length + p.mck.dropped)), .word "SPENT",
        .num ((p.sre.spent.getLast?.map fun k => k.imageId.toNat).getD 0), .word "LABEL", .label label]

/-- STAGE and BOOT reply "+000", take the slot and begin the probe of their unit; a unit that is not served, or a CARD port
with no card, ends them with the record NOT-PRESENT and notice 304, a port in FAULT with NOT-READY. They are judged 111, 112,
121 in that order (R113, R114, R131). -/
def Obligations.StageAndBootBeginWithAProbe : Prop :=
  ∀ (boot : Bool) (verb : Option Tag → List Text → Instr) (name : SlotVerb) (tag : Option Tag) (args : List Text)
    (as : List Arg) (s : State),
    (boot = true ∧ verb = .boot ∧ name = .boot) ∨ (boot = false ∧ verb = .stage ∧ name = .stage) →
    classifyWords args = .inr as → requestTaken s.toPart → inManual s.toPart →
    ((∀ x u, as ≠ [.num x, .num u] ∧ as ≠ [.num x, .num u, .word "RAW".toList]) →
      Yields (verb tag args) s (refuses 111 tag s.toPart)) ∧
    ∀ x u raw, (as = [.num x, .num u] ∧ raw = false) ∨ (as = [.num x, .num u, .word "RAW".toList] ∧ raw = true) →
      (3 < x ∨ 7 < u → Yields (verb tag args) s (refuses 112 tag s.toPart)) ∧
      (x ≤ 3 → u ≤ 7 → s.sup.slot ≠ none → Yields (verb tag args) s (refuses 121 tag s.toPart)) ∧
      ∀ port e, Port.ofNat? x = some port → u ≤ 7 → s.sup.slot = none → entryOf s.toPart port = some e →
        (u < e.kind.units → e.state ≠ .fault → (e.kind = .card → e.cardPresent = true) →
          Yields (verb tag args) s
            (slotTaken name tag (some (.start boot tag port u raw .probing))
              (setEntry port (probing e u .manualStart) (answersOk tag s.toPart)))) ∧
        (e.kind.units ≤ u →
          Yields (verb tag args) s
            (slotGivenBack
              (raise 304 tag [.num x, .num u, .word "NOT-PRESENT"]
                (records tag ⟨0, 0, port, u⟩ .notPresent none none (answersOk tag s.toPart))))) ∧
        (u < e.kind.units → e.state = .fault →
          Yields (verb tag args) s
            (slotGivenBack
              (raise 304 tag [.num x, .num u, .word "NOT-READY"]
                (records tag ⟨0, 0, port, u⟩ .notReady none none (answersOk tag s.toPart))))) ∧
        (u < e.kind.units → e.state ≠ .fault → e.kind = .card → e.cardPresent = false →
          Yields (verb tag args) s
            (slotGivenBack
              (raise 304 tag [.num x, .num u, .word "NOT-PRESENT"]
                (records tag ⟨0, 0, port, u⟩ .notPresent none none
                  (setEntry port { e with units := e.units.set u ⟨.absent, .notReady, none⟩ } (answersOk tag s.toPart))))))

/-! ### Release, confirmation and fallback -/

/-- GO is refused with 120 in INIT and while a restart is pending, and is otherwise judged 111, 120, 121, 305 in that order. One
that passes releases the target with the STAGED image in all the stages of a release: image RELEASED, count raised, TRESET
freed with the released-candidate record, RELEASED record and notices, target line open at TGTRATE sending the START record,
window by the confirm override, slot given back (R117 to R120, R130, R184). -/
def Obligations.GoReleasesTheStagedImage : Prop :=
  ∀ (tag : Option Tag) (args : List Text) (as : List Arg) (s : State), classifyWords args = .inr as →
    (consoleQuiet s.toPart → s.sup.mode = .init ∨ s.sup.restartPending = true →
      Yields (.go tag args) s (refuses 120 tag s.toPart)) ∧
    (requestTaken s.toPart →
      (as ≠ [] → Yields (.go tag args) s (refuses 111 tag s.toPart)) ∧
      (as = [] → ¬ (inManual s.toPart ∧ s.ldr.image = .staged) → Yields (.go tag args) s (refuses 120 tag s.toPart)) ∧
      ∀ plan key window phase, as = [] → inManual s.toPart → s.ldr.image = .staged → s.ldr.plan = some plan →
        key = ⟨plan.fields.port, plan.fields.unit, plan.image.imageId⟩ →
        (plan.image.confirm = 0 ∧ window = (if s.sst.settings.confirm = 0 then none else some s.sst.settings.confirm)) ∨
          (plan.image.confirm = 0xFF ∧ window = none) ∨
          (plan.image.confirm ≠ 0 ∧ plan.image.confirm ≠ 0xFF ∧ window = some plan.image.confirm) →
        phase = (match window with | some _ => .confirmWait | none => .running) →
        (s.sup.slot ≠ none → Yields (.go tag args) s (refuses 121 tag s.toPart)) ∧
        (s.sup.slot = none → key ∈ s.sre.spent → Yields (.go tag args) s (refuses 305 tag s.toPart)) ∧
        (s.sup.slot = none → key ∉ s.sre.spent →
          YieldsSome (.go tag args) s fun t =>
            t.ldr = { s.ldr with image := .released } ∧
            t.sre = logged plan.fields .released none (some plan.image.imageId)
              { s.sre with
                releaseCount := if s.sre.releaseCount < 0xFF then s.sre.releaseCount + 1 else s.sre.releaseCount } ∧
            t.rlu =
              { treset := .freed
                released := some
                  { key := key, fields := plan.fields, kind := .manual, tag := tag, entry := plan.image.entry,
                    handoff := plan.image.handoff, window := window, phase := phase }
                windowTimer := window } ∧
            t.sup = { s.sup with mode := .targetRun phase, slot := none, verbRun := none } ∧
            t.tgt =
              { isOpen := true, rate := s.sst.settings.tgtrate, waitMarking := false, line := ⟨[], .nothing⟩, lines := [],
                accepting := true, queue := []
                tx := some
                  { record := ⟨.notice, 740, none, [.num plan.image.entry, .num (plan.image.handoff.getD 0)], []⟩ } } ∧
            t.con =
              (raise 710 tag [.num key.port.num, .num key.unit, .num key.imageId.toNat]
                (records tag plan.fields .released none (some plan.image.imageId) (answersOk tag s.toPart))).con ∧
            t.spc = s.spc ∧ t.mmp = s.mmp ∧ t.mck = s.mck ∧ t.sst = s.sst))

/-- HOLD ends a release: the target line closed, TRESET asserted, the image discarded, an ABORTED record when the window still ran,
"+730", MANUAL IDLE; an argument is refused with 111 (R128). The rate of the closed target line is the model's choice
(notes/assumptions/22.md). -/
def Obligations.HoldEndsTheRelease : Prop :=
  ∀ (tag : Option Tag) (args : List Text) (as : List Arg) (s : State), classifyWords args = .inr as → requestTaken s.toPart →
    (∃ phase, s.sup.mode = .targetRun phase) →
    (as ≠ [] → Yields (.hold tag args) s (refuses 111 tag s.toPart)) ∧
    ∀ r held, as = [] → s.rlu.released = some r → s.ldr.image = .released →
      held = { s.toPart with
        tgt := { closedTarget with rate := s.tgt.rate }
        rlu := { treset := .asserted, released := none, windowTimer := none }
        ldr := { s.ldr with image := .nothing, plan := none } } →
      (r.phase = .confirmWait →
        Yields (.hold tag args) s
          (slotGivenBack (answers (accepted 730 tag [.num r.key.port.num, .num r.key.unit, .num r.key.imageId.toNat])
            (records r.tag r.fields .aborted none (some r.key.imageId) held)))) ∧
      (r.phase = .running →
        Yields (.hold tag args) s
          (slotGivenBack (answers (accepted 730 tag [.num r.key.port.num, .num r.key.unit, .num r.key.imageId.toNat])
            held)))

/-- ALIVE with the released image's id confirms the candidate: timer stopped, "+711", CONFIRMED record, RUNNING, notice 711; another
id is answered "-721" and the window runs on; in RUNNING it is refused with 120 (R121), before its argument is looked at, which is
the model's reading (notes/assumptions/14.md). -/
def Obligations.AliveConfirmsTheCandidate : Prop :=
  ∀ (tag : Option Tag) (args : List Text) (as : List Arg) (s : State) (r : Released), classifyWords args = .inr as →
    targetTaken s.toPart → s.rlu.released = some r →
    (r.phase = .running → Yields (.alive tag args) s (targetAnswers (refusal 120 tag) .nothing s.toPart)) ∧
    (r.phase = .confirmWait →
      ((∀ i, as ≠ [.num i]) → Yields (.alive tag args) s (targetAnswers (refusal 111 tag) .nothing s.toPart)) ∧
      ∀ i, as = [.num i] →
        (i ≠ r.key.imageId.toNat → Yields (.alive tag args) s (targetAnswers (refusal 721 tag) .nothing s.toPart)) ∧
        (i = r.key.imageId.toNat →
          Yields (.alive tag args) s
            (raise 711 r.tag [.num r.key.port.num, .num r.key.unit, .num i]
              (records r.tag r.fields .confirmed none (some r.key.imageId)
                (targetAnswers (accepted 711 tag [.num i]) .nothing
                  { s.toPart with
                    rlu := { s.rlu with released := some { r with phase := .running }, windowTimer := none }
                    sup := { s.sup with mode := .targetRun .running } })))))

/-- REVERT in the window and REBOOT in either phase stop the window timer, are answered, and let RLU take no further request; in
RUNNING REVERT is refused with 120. HAND replies with the last handoff record, or 122 when there is none. An argument is refused
with 111 (R123, R126, R127). That REVERT in RUNNING is refused before its argument is looked at is the model's reading
(notes/assumptions/14.md). -/
def Obligations.RevertRebootAndHand : Prop :=
  ∀ (tag : Option Tag) (args : List Text) (as : List Arg) (s : State) (r : Released) (stopped : Part),
    classifyWords args = .inr as → targetTaken s.toPart → s.rlu.released = some r →
    stopped = { s.toPart with rlu := { s.rlu with windowTimer := none }, tgt := { s.tgt with accepting := false } } →
    (r.phase = .running → Yields (.revert tag args) s (targetAnswers (refusal 120 tag) .nothing s.toPart)) ∧
    (r.phase = .confirmWait →
      (as ≠ [] → Yields (.revert tag args) s (targetAnswers (refusal 111 tag) .nothing s.toPart)) ∧
      (as = [] → Yields (.revert tag args) s (targetAnswers (accepted 712 tag []) .revert stopped))) ∧
    (as ≠ [] → Yields (.reboot tag args) s (targetAnswers (refusal 111 tag) .nothing s.toPart)) ∧
    (as = [] → Yields (.reboot tag args) s (targetAnswers (accepted 803 tag []) .reboot stopped)) ∧
    (as ≠ [] → Yields (.hand tag args) s (targetAnswers (refusal 111 tag) .nothing s.toPart)) ∧
    (as = [] → s.ldr.handoff = none → Yields (.hand tag args) s (targetAnswers (refusal 122 tag) .nothing s.toPart)) ∧
    ∀ h, as = [] → s.ldr.handoff = some h →
      Yields (.hand tag args) s (targetAnswers (accepted 0 tag (handFields h)) .nothing s.toPart)

/-- A window ends by failure when its timer expires, or when the "+712" of a REVERT has left: the target held, its line closed,
the image discarded, the outcome logged, the candidate spent, notice 712; then MANUAL IDLE for a manual release, and for an
automatic one a fallback run whose round counts on from the last, over at once only at MAXROUNDS (R62, R123 to R125). The rate
of the closed target line is the model's choice (notes/assumptions/22.md). -/
def Obligations.FailedWindowsFallBack : Prop :=
  ∀ (s : State) (c : Instr) (o : AttemptOutcome) (r : Released) (failed : Part),
    (c = .windowExpiry ∧ o = .confirmTimeout ∧ s.rlu.windowTimer ≠ none) ∨
      (c = .targetRecordSent ∧ o = .reverted ∧ s.tgt.tx.map TargetItem.after = some .revert) →
    s.rlu.released = some r → s.ldr.image = .released →
    failed =
      raise 712 r.tag
        [.num r.key.port.num, .num r.key.unit, .num r.key.imageId.toNat,
          .word (if o = .reverted then "REVERTED" else "CONFIRM-TIMEOUT")]
        { records r.tag r.fields o none (some r.key.imageId)
            { s.toPart with
              tgt := { closedTarget with rate := s.tgt.rate }
              rlu := { treset := .asserted, released := none, windowTimer := none }
              ldr := { s.ldr with image := .nothing, plan := none } } with
          sre :=
            { logged r.fields o none (some r.key.imageId) s.sre with
              spent := pushBounded 8 s.sre.spent r.key } } →
    (r.kind = .manual → Yields c s (slotGivenBack failed)) ∧
    (r.kind = .automatic →
      Yields c s (beginRun .fallback r.tag failed) ∧
      YieldsSome c s fun t =>
        t.sre.lastRound = min 0xFFFF (s.sre.lastRound + 1) ∧ t.sre.spent = failed.sre.spent ∧
        t.sre.releaseCount = s.sre.releaseCount ∧
        (∀ run, t.sre.run = some run →
          run.origin = .fallback ∧ run.tag = r.tag ∧ run.round = t.sre.lastRound ∧ t.sup.slot = some .searchRun) ∧
        (t.sre.run = none →
          t.sup.slot = none ∧ t.sup.mode = .manual none ∧ s.sst.settings.maxrounds ≠ 0 ∧
            s.sst.settings.maxrounds ≤ t.sre.lastRound) ∧
        t.rlu = failed.rlu ∧ t.ldr = failed.ldr ∧ t.tgt = failed.tgt ∧ t.sst = s.sst ∧ t.mck = s.mck ∧ t.mmp = s.mmp)

/-! ### Search -/

/-- SEEK begins a run at round 1 and, with CLEAR, empties the spent list and the release count first; the expiry of the round wait
begins the next round. The run goes on, or is over with the slot given back, at MAXROUNDS only; nothing of the target, the memory,
the loader or the settings changes (R43, R44, R49, R50, R63). -/
def Obligations.RoundsBegin : Prop :=
  (∀ (tag : Option Tag) (args : List Text) (as : List Arg) (s : State), classifyWords args = .inr as → requestTaken s.toPart →
    inManual s.toPart →
    (as ≠ [] → as ≠ [.word "CLEAR".toList] → Yields (.seek tag args) s (refuses 111 tag s.toPart)) ∧
    (as = [] ∨ as = [.word "CLEAR".toList] →
      (s.sup.slot ≠ none → Yields (.seek tag args) s (refuses 121 tag s.toPart)) ∧
      (s.sup.slot = none →
        YieldsSome (.seek tag args) s fun t =>
          t.sre.lastRound = 1 ∧ (as = [] → t.sre.spent = s.sre.spent ∧ t.sre.releaseCount = s.sre.releaseCount) ∧
          (as ≠ [] → t.sre.spent = [] ∧ t.sre.releaseCount = 0) ∧
          (∀ run, t.sre.run = some run →
            run.origin = .seek ∧ run.tag = tag ∧ run.round = 1 ∧ t.sup.slot = some .searchRun ∧ t.sup.runTag = tag) ∧
          (t.sre.run = none → t.sup.slot = none ∧ t.sup.mode = .manual none ∧ s.sst.settings.maxrounds = 1) ∧
          (s.con.tx = none → t.con.tx = some { record := some (accepted 0 tag []) }) ∧
          (s.con.tx ≠ none → t.con.tx = s.con.tx ∧ t.con.replies = [{ record := some (accepted 0 tag []) }]) ∧
          t.mmp = s.mmp ∧ t.mck = s.mck ∧ t.ldr = s.ldr ∧ t.rlu = s.rlu ∧ t.sst = s.sst ∧ t.tgt = s.tgt))) ∧
  ∀ (s : State) (r : SearchRun), s.sre.waitTimer ≠ none → s.sre.run = some r →
    YieldsSome .roundWaitExpiry s fun t =>
      t.sre.lastRound = min 0xFFFF (r.round + 1) ∧ t.sre.spent = s.sre.spent ∧ t.sre.releaseCount = s.sre.releaseCount ∧
      (∀ run, t.sre.run = some run →
        run.origin = r.origin ∧ run.tag = r.tag ∧ run.round = t.sre.lastRound ∧ t.sup.slot = s.sup.slot) ∧
      (t.sre.run = none →
        t.sup.slot = none ∧ t.sup.mode = .manual none ∧ s.sst.settings.maxrounds ≠ 0 ∧
          s.sst.settings.maxrounds ≤ t.sre.lastRound) ∧
      t.mmp = s.mmp ∧ t.mck = s.mck ∧ t.ldr = s.ldr ∧ t.rlu = s.rlu ∧ t.sst = s.sst ∧ t.tgt = s.tgt

/-- On a part whose ports are all of kind NONE a round logs NOT-PRESENT once for every unit of the list, the entries that are not of
last resort before those that are, each entry's units in turn, and then ends: with the round wait, or at MAXROUNDS with the run
(R44, R45, R48, R49). -/
def Obligations.ARoundVisitsEveryUnitInOrder : Prop :=
  ∀ (s : State) (t4 : Four PortEntry) (r : SearchRun), s.sre.waitTimer ≠ none → s.sre.run = some r →
    s.spc.ports = some t4 → (∀ port, (t4.get port).kind = .unused) → (∀ e ∈ s.sst.settings.order, 1 ≤ e.tries) →
    ∀ (visits : List (Nat × BootEntry × Nat)) (n : Nat), n = min 0xFFFF (r.round + 1) →
      visits = [false, true].flatMap (fun resort =>
        (s.sst.settings.order.mapIdx fun k e => (k + 1, e)).flatMap fun x =>
          if x.2.lastResort = resort then
            (List.range (x.2.last + 1 - x.2.first)).map fun j => (x.1, x.2, x.2.first + j)
          else []) →
      YieldsSome .roundWaitExpiry s fun t =>
        (t.sre.log, t.sre.nextSeq) =
          visits.foldl
            (fun (log, seq) x =>
              (pushBounded 32 log ⟨seq, ⟨n, x.1, x.2.1.port, x.2.2⟩, .notPresent, none, none⟩, nextSequence seq))
            (s.sre.log, s.sre.nextSeq) ∧
        (s.sst.settings.maxrounds = 0 ∨ n < s.sst.settings.maxrounds →
          t.sup.mode = .auto .wait ∧
          t.sre.waitTimer = some (if n ≤ 8 then s.sst.settings.shortwait else s.sst.settings.longwait) ∧
          t.sre.run.map SearchRun.round = some n ∧ t.sre.run.map SearchRun.entry = some 0) ∧
        (s.sst.settings.maxrounds ≠ 0 ∧ s.sst.settings.maxrounds ≤ n →
          t.sup.mode = .manual none ∧ t.sre.run = none ∧ t.sre.waitTimer = none)

/-- ANSWER with the id of the pending question, and the expiry of its timer, end the question: slot and held block emptied, timer
stopped, and the attempt ends with UNKNOWN-DECLINED or UNKNOWN-TIMEOUT, or after YES goes on with the held block classified as a
raw candidate. ANSWER is judged 111, 112, 413 in that order (R52 to R54). -/
def Obligations.QuestionsEndByAnswerOrTimer : Prop :=
  (∀ (tag : Option Tag) (args : List Text) (as : List Arg) (s : State), classifyWords args = .inr as → requestTaken s.toPart →
    (∃ phase, s.sup.mode = .auto phase) →
    ((∀ q, as ≠ [.num q, .word "YES".toList] ∧ as ≠ [.num q, .word "NO".toList]) →
      Yields (.answer tag args) s (refuses 111 tag s.toPart)) ∧
    ∀ q yes, as = [.num q, .word (if yes then "YES".toList else "NO".toList)] →
      (q < 1 ∨ 0xFF < q → Yields (.answer tag args) s (refuses 112 tag s.toPart)) ∧
      (1 ≤ q → q ≤ 0xFF → s.sre.question.map Question.id ≠ some q →
        Yields (.answer tag args) s (refuses 413 tag s.toPart)) ∧
      ∀ r h e ended, 1 ≤ q → q ≤ 0xFF → s.sre.question.map Question.id = some q → s.sre.run = some r → r.held = some h →
        currentEntry s.toPart = some e →
        ended =
          { answers (accepted 412 tag [.num q, .word (if yes then "YES" else "NO")]) s.toPart with
            sre := { s.sre with question := none, questionTimer := none, run := some { r with held := none } }
            con :=
              { s.con.answered { record := some (accepted 412 tag [.num q, .word (if yes then "YES" else "NO")]) } with
                question := none }
            sup := { s.sup with mode := .auto .search } } →
        (yes = false → Yields (.answer tag args) s (endAttempt .unknownDeclined none h.imageId ended)) ∧
        (yes = true →
          Yields (.answer tag args) s
            (searchClassified h.block h.capacity (classifyNow h.block h.capacity e.port r.unit true ended) ended))) ∧
  ∀ (s : State) (r : SearchRun) (h : HeldBlock), s.sre.questionTimer ≠ none → s.sre.run = some r → r.held = some h →
    Yields .questionTimerExpiry s
      (endAttempt .unknownTimeout none h.imageId
        { s.toPart with
          sre := { s.sre with question := none, questionTimer := none, run := some { r with held := none } }
          con := { s.con with question := none }
          sup := { s.sup with mode := .auto .search } })

/-! ### Resets and INIT -/

/-- What POWER-ON and PIN leave: every list, queue and run empty, the health UNCHECKED, the target held, the settings memory and the
sense inputs as they were, the console at 38400 baud sending 0D 0A and waiting for marking, and the supervisor in INIT with its
timer running (R4, R65, R73, R77, R96, R112, R134, R135, R138, R168, R187). That the bare 0D 0A occupies the transmitter like a
record is the model's reading (notes/assumptions/8.md). -/
def Obligations.PowerResetsLeave : Prop :=
  ∀ (s : State) (c : Instr) (cause : ResetCause), (c = .powerOn ∧ cause = .powerOn) ∨ (c = .pinReset ∧ cause = .pin) →
    YieldsSome c s fun t =>
      t.spc = { ports := none, sense := s.spc.sense } ∧
      t.sre =
        { run := none, lastRound := 0, log := [], nextSeq := 1, spent := [], releaseCount := 0, question := none,
          questionId := 0, questionTimer := none, waitTimer := none } ∧
      (∀ i, t.mmp.health.get i = .unchecked) ∧ t.mmp.txn = none ∧ t.mck = { run := none, defects := [], dropped := 0 } ∧
      t.ldr = { image := .nothing, plan := none, handoff := none } ∧
      t.rlu = { treset := .asserted, released := none, windowTimer := none } ∧
      t.sup =
        { mode := .init, cause := cause, breakFlag := false, restartPending := false, slot := none, runTag := none,
          initTimer := true, settled := false, abortPending := false, verbRun := none } ∧
      t.sst.areaA = s.sst.areaA ∧ t.sst.areaB = s.sst.areaB ∧ t.sst.saving = none ∧
      t.con =
        { rate := 38400, pendingRate := none, waitMarking := true, line := ⟨[], .nothing⟩, lines := [], replies := [],
          question := none, notices := [], lost := 0, tx := some { record := none } } ∧
      t.tgt.isOpen = false ∧ t.tgt.line = ⟨[], .nothing⟩ ∧ t.tgt.lines = [] ∧ t.tgt.queue = [] ∧ t.tgt.tx = none

/-- SETTINGS_SETTLED after a POWER-ON or PIN: the valid copy with the higher generation, or the defaults, become the working
settings; the copy records and the source tell which; notice 904; the port table is set up; the console takes CONRATE after the
record being sent (R4, R161, R183; notes/assumptions/23.md). Nothing else changes while the INIT timer runs; when it has
expired INIT ends in the same step (R139, R140). -/
def Obligations.SettingsSettleToTheNewestCopy : Prop :=
  ∀ s : State, s.sup.mode = .init → s.sup.settled = false →
    ∀ (chosen : Settings) (source : Source) (g : Nat),
      (validCopy s.sst.areaA = none ∧ validCopy s.sst.areaB = none ∧ chosen = defaultSettings ∧ source = .defaults ∧ g = 0) ∨
        (∃ a, validCopy s.sst.areaA = some a ∧ (∀ b, validCopy s.sst.areaB = some b → b.generation < a.generation) ∧
          chosen = a.settings ∧ source = .a ∧ g = a.generation) ∨
        (∃ b, validCopy s.sst.areaB = some b ∧ (∀ a, validCopy s.sst.areaA = some a → a.generation < b.generation) ∧
          chosen = b.settings ∧ source = .b ∧ g = b.generation) →
      (s.sup.initTimer = true →
        YieldsSome .settingsSettled s fun t =>
          t.sst =
            { s.sst with
              settings := chosen
              source := source
              recordA := validGeneration s.sst.areaA
              recordB := validGeneration s.sst.areaB } ∧
          t.spc =
            { s.spc with
              ports := some ⟨freshEntry chosen.kinds.p0 s.spc.sense.p0, freshEntry chosen.kinds.p1 s.spc.sense.p1,
                freshEntry chosen.kinds.p2 s.spc.sense.p2, freshEntry chosen.kinds.p3 s.spc.sense.p3⟩ } ∧
          t.con =
            settleRate chosen.conrate
              (raise 904 none [.word (match source with | .a => "A" | .b => "B" | .defaults => "DEFAULTS"), .num g]
                s.toPart).con ∧
          t.sup = { s.sup with settled := true } ∧ t.sre = s.sre ∧ t.mmp = s.mmp ∧ t.mck = s.mck ∧ t.ldr = s.ldr ∧
          t.rlu = s.rlu ∧ t.tgt = s.tgt) ∧
      (s.sup.initTimer = false →
        ∀ q, q =
            { s.toPart with
              sst :=
                { s.sst with
                  settings := chosen
                  source := source
                  recordA := validGeneration s.sst.areaA
                  recordB := validGeneration s.sst.areaB }
              spc :=
                { s.spc with
                  ports := some ⟨freshEntry chosen.kinds.p0 s.spc.sense.p0, freshEntry chosen.kinds.p1 s.spc.sense.p1,
                    freshEntry chosen.kinds.p2 s.spc.sense.p2, freshEntry chosen.kinds.p3 s.spc.sense.p3⟩ }
              con :=
                settleRate chosen.conrate
                  (raise 904 none [.word (match source with | .a => "A" | .b => "B" | .defaults => "DEFAULTS"), .num g]
                    s.toPart).con
              sup := { s.sup with settled := true } } →
          YieldsSome .settingsSettled s (initEnds q))

/-- The expiry of the INIT timer waits for the settings, or ends INIT with notice 800: MANUAL IDLE after a break or with
AUTOSTART OFF, the automatic check, with notice 500 and its first transaction, when AUTOCHECK asks for one and a region carries
CHECK, otherwise the search (R139, R140). That an expiry of a stopped timer changes nothing is the model's choice
(notes/assumptions/6.md). -/
def Obligations.InitEndsInTheChosenMode : Prop :=
  (∀ (s : State) (p : Part), s.sup.mode = .init →
    p = raise 800 none [.word s.sup.cause.name, .word s.sst.source.name]
      { s.toPart with sup := { s.sup with initTimer := false } } →
    (s.sup.initTimer = false → Yields .initTimerExpiry s s.toPart) ∧
    (s.sup.initTimer = true →
      (s.sup.settled = false → Yields .initTimerExpiry s { s.toPart with sup := { s.sup with initTimer := false } }) ∧
      (s.sup.settled = true →
        (s.sup.breakFlag = true ∨ s.sst.settings.autostart = false → Yields .initTimerExpiry s (slotGivenBack p)) ∧
        (s.sup.breakFlag = false → s.sst.settings.autostart = true →
          (s.sst.settings.autocheck ≠ .nothing →
            (∃ i g, s.sst.settings.map.get i = some g ∧ g.check = true) →
            YieldsSome .initTimerExpiry s fun t =>
              t.sup = { p.sup with mode := .auto .check, slot := some .automaticCheck } ∧
              (∃ r, t.mck = { run := some r, defects := [], dropped := 0 } ∧ r.origin = .auto ∧ r.tag = none ∧ r.passes = 1 ∧
                r.pass = 1 ∧ r.stop = false ∧ (r.asked = .walk ↔ s.sst.settings.autocheck = .walk) ∧ r.asked ≠ .read ∧
                ∀ i, i ∈ r.regions ↔ ∃ g, s.sst.settings.map.get i = some g ∧ g.check = true) ∧
              t.sre = s.sre ∧ t.rlu = s.rlu ∧ t.sst = s.sst ∧ t.spc = s.spc ∧ t.tgt = s.tgt) ∧
          (s.sst.settings.autocheck = .nothing ∨ (∀ i g, s.sst.settings.map.get i = some g → g.check = false) →
            Yields .initTimerExpiry s (beginRun .start none p)))))) ∧
  ∀ s : State, s.sup.mode = .init → s.sup.initTimer = true → s.sup.settled = true →
    YieldsSome .initTimerExpiry s (initEnds { s.toPart with sup := { s.sup with initTimer := false } })

/-! ### Conditions that every step keeps -/

/-- The working settings, both stored copies and the snapshot of a SAVE stay within their ranges, their list rule and their map rule,
from every state in which they are (R38, R66, R154, R160). -/
def Obligations.SettingsStaySound : Prop := KeptByEveryStep settingsSound

/-- During INIT nothing is in progress; the settings are unsettled only during INIT; and two valid stored copies never share a
generation, the copy records telling what the areas hold (R138, R139, R160 to R163). -/
def Obligations.StoredCopiesStaySound : Prop := KeptByEveryStep fun p => initIdle p ∧ copiesSound p

/-- The attempt log keeps its 32 records with their numbers each after the one before, the spent list its 8, the defect list its 16,
and the counts their limits (R56, R59, R61, R90). -/
def Obligations.ListsStaySound : Prop := KeptByEveryStep listsSound

/-- The console's queues keep their limits, lines wait only while a reply waits, a loss waits only while the notice queue is full,
and a free transmitter leaves nothing waiting (R170, R172, R173, R180, R182). -/
def Obligations.ConsoleStaysSound : Prop := KeptByEveryStep consoleSound

/-- The target line's queues keep their limits, are empty while the line is closed, and a free transmitter leaves nothing waiting
(R170, R172, R184 to R186). -/
def Obligations.TargetLineStaysSound : Prop := KeptByEveryStep targetSound

/-- The operation slot is held exactly in AUTO and MANUAL BUSY by what is in progress, at most one request is in flight and the holder
waits for it, and TRESET is freed exactly in TARGET-RUN, with the image RELEASED (R2, R74, R98, R116, R117, R137). -/
def Obligations.SlotStaysSound : Prop := KeptByEveryStep fun p => slotSound p = true

/-- Every transaction in flight on the memory port stays one that the port takes: word-aligned, inside the map, no write into a
PRESERVE region, and the target held (R74, R75). -/
def Obligations.TransactionsStayPermitted : Prop := KeptByEveryStep fun p => slotSound p = true ∧ portSound p

/-- After reset every one of these conditions holds. -/
def Obligations.ResetMeetsTheConditions : Prop :=
  settingsSound State.reset.toPart ∧ initIdle State.reset.toPart ∧ copiesSound State.reset.toPart ∧
    listsSound State.reset.toPart ∧ consoleSound State.reset.toPart ∧ targetSound State.reset.toPart ∧
    slotSound State.reset.toPart = true ∧ portSound State.reset.toPart
end

