-- ==== Sys2Proof/Laws/Link.lean ====
section
/-! SUPPORT. What the bytes received on a LINK port make: a frame is not changed by the bytes after it, pieces are cut after each
frame, and without a request outstanding nothing happens. -/

namespace Sys2Proof.Machine

/-- Bytes after those that begin with a kept one are kept with them. -/
theorem dropWhile_append_of_cons {P : Byte → Bool} {r : List Byte} {a : Byte} {b : List Byte} (x : List Byte)
    (h : r.dropWhile P = a :: b) : (r ++ x).dropWhile P = a :: (b ++ x) := by
  induction r with
  | nil => simp at h
  | cons y ys ih =>
    simp only [List.cons_append, List.dropWhile_cons] at h ⊢
    split at h <;> rename_i hp
    · simp [hp]; exact ih h
    · simp [hp]; simp at h; obtain ⟨rfl, rfl⟩ := h; simp

/-- A field that lies within bytes is not changed by those after them (R25). -/
theorem field_append {b : List Byte} {i n : Nat} (x : List Byte) (h : i + n ≤ b.length) : field (b ++ x) i n = field b i n := by
  unfold field
  rw [List.drop_append_of_le_length (by omega), List.take_append_of_le_length (by simp; omega)]

/-- Bytes after those that make a frame, or a malformed one, change nothing of it, and are what is left after it (R18). -/
theorem assemble_append {r : List Byte} (x : List Byte) (h : assemble r ≠ .incomplete) :
    assemble (r ++ x) = assemble r ∧ afterFrame (r ++ x) = afterFrame r ++ x := by
  unfold assemble afterFrame at *
  cases hd : r.dropWhile (fun b => decide (b ≠ 0x7E)) with
  | nil => rw [hd] at h; exact absurd rfl h
  | cons a body =>
    rw [hd] at h
    simp only at h
    rw [dropWhile_append_of_cons x hd]
    simp only
    split at h
    · exact absurd rfl h
    rename_i h8
    have hf := field_append (b := body) (i := 6) (n := 2) x (by omega)
    rw [hf]
    have hl : ¬ (body ++ x).length < 8 := by simp; omega
    rw [if_neg h8, if_neg hl]
    split at h
    · rename_i hm
      rw [if_pos hm, if_pos hm, if_pos hm, if_pos hm]
      refine ⟨rfl, ?_⟩
      rw [List.drop_append_of_le_length (by omega)]
    · rename_i hm
      rw [if_neg hm, if_neg hm, if_neg hm, if_neg hm]
      split at h
      · exact absurd rfl h
      · rename_i hl2
        have hl3 : ¬ (body ++ x).length < 8 + field body 6 2 + 2 := by simp; omega
        rw [if_neg hl2, if_neg hl3]
        have hle : 8 + field body 6 2 + 2 ≤ body.length := by omega
        rw [field_append (b := body) (i := 0) (n := 1) x (by omega), field_append (b := body) (i := 1) (n := 1) x (by omega),
          field_append (b := body) (i := 2) (n := 4) x (by omega),
          field_append (b := body) (i := 8 + field body 6 2) (n := 2) x (by omega),
          List.drop_append_of_le_length (l₂ := x) (i := 8 + field body 6 2 + 2) (by omega),
          List.take_append_of_le_length (l₂ := x) (i := 8 + field body 6 2) (by omega),
          List.drop_append_of_le_length (l₂ := x) (i := 8) (by omega),
          List.take_append_of_le_length (l₂ := x) (i := field body 6 2) (by simp; omega)]
        exact ⟨rfl, rfl⟩

/-- Bytes that make a frame with those received before are cut after it (R18). -/
theorem linkPieces_complete {r b : List Byte} (n : Nat) (h : assemble (r ++ b) ≠ .incomplete) :
    linkPieces (n + 1) r b =
      b.take (b.length - (afterFrame (r ++ b)).length) ::
        (if afterFrame (r ++ b) = [] then [] else linkPieces n [] (afterFrame (r ++ b))) := by
  rw [linkPieces]
  cases ha : assemble (r ++ b) with
  | incomplete => exact absurd ha h
  | _ => rfl

/-- Bytes that make no frame with those received before stay one piece (R18). -/
theorem linkPieces_incomplete {r b : List Byte} (n : Nat) (h : assemble (r ++ b) = .incomplete) : linkPieces (n + 1) r b = [b] := by
  simp [linkPieces, h]

/-- With no request outstanding on a LINK port, bytes received are discarded (R18). -/
theorem linkPiece_quiet {port : Port} {p : Part}
    (h : ∀ e, entryOf p port = some e → e.op = none ∨ e.kind ≠ .link) (b : List Byte) :
    linkPiece port p b = p := by
  unfold linkPiece
  split
  · rfl
  · rename_i e he
    split
    · rfl
    · rename_i f ho
      simp [(h e he).resolve_left (by simp [ho])]

end Sys2Proof.Machine
end

