-- ==== Sys2Proof/Laws/State.lean ====
section
/-! SUPPORT. One lemma per field and update: each operation on the part leaves the blocks it does not name as they were, and the
updates of a table read back. -/

namespace Sys2Proof

/-! ### Tables -/

@[simp] theorem Four.get_set_self {α : Type} (t : Four α) (p : Port) (x : α) : (t.set p x).get p = x := by cases p <;> rfl

theorem Four.get_set_of_ne {α : Type} (t : Four α) {p q : Port} (x : α) (h : q ≠ p) : (t.set p x).get q = t.get q := by
  cases p <;> cases q <;> first | rfl | exact absurd rfl h

@[simp] theorem Eight.get_set_self {α : Type} (t : Eight α) (i : Idx) (x : α) : (t.set i x).get i = x := by cases i <;> rfl

theorem Eight.get_set_of_ne {α : Type} (t : Eight α) {i j : Idx} (x : α) (h : j ≠ i) : (t.set i x).get j = t.get j := by
  cases i <;> cases j <;> first | rfl | exact absurd rfl h

@[simp] theorem Eight.get_const {α : Type} (x : α) (i : Idx) : (Eight.const x).get i = x := by cases i <;> rfl

@[simp] theorem Port.ofNat?_num (p : Port) : Port.ofNat? p.num = some p := by cases p <;> rfl

@[simp] theorem Idx.ofNat?_num (i : Idx) : Idx.ofNat? i.num = some i := by cases i <;> rfl

namespace Machine

/-! ### The queue of commands -/

@[simp] theorem on_eq (s : State) (f : Part → Part) : s.on f = .next { s with toPart := f s.toPart } := rfl

/-! ### Blocks an operation leaves as they were -/

variable (p : Part)

@[simp] theorem raise_spc (code : Nat) (tag : Option Tag) (fs : List Field) : (raise code tag fs p).spc = p.spc := rfl
@[simp] theorem raise_sre (code : Nat) (tag : Option Tag) (fs : List Field) : (raise code tag fs p).sre = p.sre := rfl
@[simp] theorem raise_mmp (code : Nat) (tag : Option Tag) (fs : List Field) : (raise code tag fs p).mmp = p.mmp := rfl
@[simp] theorem raise_mck (code : Nat) (tag : Option Tag) (fs : List Field) : (raise code tag fs p).mck = p.mck := rfl
@[simp] theorem raise_ldr (code : Nat) (tag : Option Tag) (fs : List Field) : (raise code tag fs p).ldr = p.ldr := rfl
@[simp] theorem raise_rlu (code : Nat) (tag : Option Tag) (fs : List Field) : (raise code tag fs p).rlu = p.rlu := rfl
@[simp] theorem raise_sup (code : Nat) (tag : Option Tag) (fs : List Field) : (raise code tag fs p).sup = p.sup := rfl
@[simp] theorem raise_sst (code : Nat) (tag : Option Tag) (fs : List Field) : (raise code tag fs p).sst = p.sst := rfl
@[simp] theorem raise_tgt (code : Nat) (tag : Option Tag) (fs : List Field) : (raise code tag fs p).tgt = p.tgt := rfl

@[simp] theorem reply_spc (i : ConsoleItem) : (reply i p).spc = p.spc := rfl
@[simp] theorem reply_sre (i : ConsoleItem) : (reply i p).sre = p.sre := rfl
@[simp] theorem reply_mmp (i : ConsoleItem) : (reply i p).mmp = p.mmp := rfl
@[simp] theorem reply_mck (i : ConsoleItem) : (reply i p).mck = p.mck := rfl
@[simp] theorem reply_ldr (i : ConsoleItem) : (reply i p).ldr = p.ldr := rfl
@[simp] theorem reply_rlu (i : ConsoleItem) : (reply i p).rlu = p.rlu := rfl
@[simp] theorem reply_sup (i : ConsoleItem) : (reply i p).sup = p.sup := rfl
@[simp] theorem reply_sst (i : ConsoleItem) : (reply i p).sst = p.sst := rfl
@[simp] theorem reply_tgt (i : ConsoleItem) : (reply i p).tgt = p.tgt := rfl

@[simp] theorem replyRecord_spc (r : Record) : (replyRecord r p).spc = p.spc := rfl
@[simp] theorem replyRecord_sre (r : Record) : (replyRecord r p).sre = p.sre := rfl
@[simp] theorem replyRecord_mmp (r : Record) : (replyRecord r p).mmp = p.mmp := rfl
@[simp] theorem replyRecord_mck (r : Record) : (replyRecord r p).mck = p.mck := rfl
@[simp] theorem replyRecord_ldr (r : Record) : (replyRecord r p).ldr = p.ldr := rfl
@[simp] theorem replyRecord_rlu (r : Record) : (replyRecord r p).rlu = p.rlu := rfl
@[simp] theorem replyRecord_sup (r : Record) : (replyRecord r p).sup = p.sup := rfl
@[simp] theorem replyRecord_sst (r : Record) : (replyRecord r p).sst = p.sst := rfl
@[simp] theorem replyRecord_tgt (r : Record) : (replyRecord r p).tgt = p.tgt := rfl

@[simp] theorem replyOk_spc (tag : Option Tag) : (replyOk tag p).spc = p.spc := rfl
@[simp] theorem replyOk_sre (tag : Option Tag) : (replyOk tag p).sre = p.sre := rfl
@[simp] theorem replyOk_mmp (tag : Option Tag) : (replyOk tag p).mmp = p.mmp := rfl
@[simp] theorem replyOk_mck (tag : Option Tag) : (replyOk tag p).mck = p.mck := rfl
@[simp] theorem replyOk_ldr (tag : Option Tag) : (replyOk tag p).ldr = p.ldr := rfl
@[simp] theorem replyOk_rlu (tag : Option Tag) : (replyOk tag p).rlu = p.rlu := rfl
@[simp] theorem replyOk_sup (tag : Option Tag) : (replyOk tag p).sup = p.sup := rfl
@[simp] theorem replyOk_sst (tag : Option Tag) : (replyOk tag p).sst = p.sst := rfl
@[simp] theorem replyOk_tgt (tag : Option Tag) : (replyOk tag p).tgt = p.tgt := rfl

@[simp] theorem refuse_spc (code : Nat) (tag : Option Tag) : (refuse code tag p).spc = p.spc := rfl
@[simp] theorem refuse_sre (code : Nat) (tag : Option Tag) : (refuse code tag p).sre = p.sre := rfl
@[simp] theorem refuse_mmp (code : Nat) (tag : Option Tag) : (refuse code tag p).mmp = p.mmp := rfl
@[simp] theorem refuse_mck (code : Nat) (tag : Option Tag) : (refuse code tag p).mck = p.mck := rfl
@[simp] theorem refuse_ldr (code : Nat) (tag : Option Tag) : (refuse code tag p).ldr = p.ldr := rfl
@[simp] theorem refuse_rlu (code : Nat) (tag : Option Tag) : (refuse code tag p).rlu = p.rlu := rfl
@[simp] theorem refuse_sup (code : Nat) (tag : Option Tag) : (refuse code tag p).sup = p.sup := rfl
@[simp] theorem refuse_sst (code : Nat) (tag : Option Tag) : (refuse code tag p).sst = p.sst := rfl
@[simp] theorem refuse_tgt (code : Nat) (tag : Option Tag) : (refuse code tag p).tgt = p.tgt := rfl

@[simp] theorem handQuestion_spc (q : Question) : (handQuestion q p).spc = p.spc := rfl
@[simp] theorem handQuestion_sre (q : Question) : (handQuestion q p).sre = p.sre := rfl
@[simp] theorem handQuestion_mmp (q : Question) : (handQuestion q p).mmp = p.mmp := rfl
@[simp] theorem handQuestion_mck (q : Question) : (handQuestion q p).mck = p.mck := rfl
@[simp] theorem handQuestion_ldr (q : Question) : (handQuestion q p).ldr = p.ldr := rfl
@[simp] theorem handQuestion_rlu (q : Question) : (handQuestion q p).rlu = p.rlu := rfl
@[simp] theorem handQuestion_sup (q : Question) : (handQuestion q p).sup = p.sup := rfl
@[simp] theorem handQuestion_sst (q : Question) : (handQuestion q p).sst = p.sst := rfl
@[simp] theorem handQuestion_tgt (q : Question) : (handQuestion q p).tgt = p.tgt := rfl

@[simp] theorem handTarget_spc (i : TargetItem) : (handTarget i p).spc = p.spc := rfl
@[simp] theorem handTarget_sre (i : TargetItem) : (handTarget i p).sre = p.sre := rfl
@[simp] theorem handTarget_mmp (i : TargetItem) : (handTarget i p).mmp = p.mmp := rfl
@[simp] theorem handTarget_mck (i : TargetItem) : (handTarget i p).mck = p.mck := rfl
@[simp] theorem handTarget_ldr (i : TargetItem) : (handTarget i p).ldr = p.ldr := rfl
@[simp] theorem handTarget_rlu (i : TargetItem) : (handTarget i p).rlu = p.rlu := rfl
@[simp] theorem handTarget_sup (i : TargetItem) : (handTarget i p).sup = p.sup := rfl
@[simp] theorem handTarget_sst (i : TargetItem) : (handTarget i p).sst = p.sst := rfl
@[simp] theorem handTarget_con (i : TargetItem) : (handTarget i p).con = p.con := rfl

@[simp] theorem targetReply_spc (r : Record) : (targetReply r p).spc = p.spc := rfl
@[simp] theorem targetReply_sre (r : Record) : (targetReply r p).sre = p.sre := rfl
@[simp] theorem targetReply_mmp (r : Record) : (targetReply r p).mmp = p.mmp := rfl
@[simp] theorem targetReply_mck (r : Record) : (targetReply r p).mck = p.mck := rfl
@[simp] theorem targetReply_ldr (r : Record) : (targetReply r p).ldr = p.ldr := rfl
@[simp] theorem targetReply_rlu (r : Record) : (targetReply r p).rlu = p.rlu := rfl
@[simp] theorem targetReply_sup (r : Record) : (targetReply r p).sup = p.sup := rfl
@[simp] theorem targetReply_sst (r : Record) : (targetReply r p).sst = p.sst := rfl
@[simp] theorem targetReply_con (r : Record) : (targetReply r p).con = p.con := rfl

@[simp] theorem appendRecord_spc (tag : Option Tag) (f : AttemptFields) (o : AttemptOutcome) (d : Option Nat) (i : Option Word32) : (appendRecord tag f o d i p).spc = p.spc := rfl
@[simp] theorem appendRecord_mmp (tag : Option Tag) (f : AttemptFields) (o : AttemptOutcome) (d : Option Nat) (i : Option Word32) : (appendRecord tag f o d i p).mmp = p.mmp := rfl
@[simp] theorem appendRecord_mck (tag : Option Tag) (f : AttemptFields) (o : AttemptOutcome) (d : Option Nat) (i : Option Word32) : (appendRecord tag f o d i p).mck = p.mck := rfl
@[simp] theorem appendRecord_ldr (tag : Option Tag) (f : AttemptFields) (o : AttemptOutcome) (d : Option Nat) (i : Option Word32) : (appendRecord tag f o d i p).ldr = p.ldr := rfl
@[simp] theorem appendRecord_rlu (tag : Option Tag) (f : AttemptFields) (o : AttemptOutcome) (d : Option Nat) (i : Option Word32) : (appendRecord tag f o d i p).rlu = p.rlu := rfl
@[simp] theorem appendRecord_sup (tag : Option Tag) (f : AttemptFields) (o : AttemptOutcome) (d : Option Nat) (i : Option Word32) : (appendRecord tag f o d i p).sup = p.sup := rfl
@[simp] theorem appendRecord_sst (tag : Option Tag) (f : AttemptFields) (o : AttemptOutcome) (d : Option Nat) (i : Option Word32) : (appendRecord tag f o d i p).sst = p.sst := rfl
@[simp] theorem appendRecord_tgt (tag : Option Tag) (f : AttemptFields) (o : AttemptOutcome) (d : Option Nat) (i : Option Word32) : (appendRecord tag f o d i p).tgt = p.tgt := rfl

@[simp] theorem setMode_spc (m : Mode) : (setMode m p).spc = p.spc := rfl
@[simp] theorem setMode_sre (m : Mode) : (setMode m p).sre = p.sre := rfl
@[simp] theorem setMode_mmp (m : Mode) : (setMode m p).mmp = p.mmp := rfl
@[simp] theorem setMode_mck (m : Mode) : (setMode m p).mck = p.mck := rfl
@[simp] theorem setMode_ldr (m : Mode) : (setMode m p).ldr = p.ldr := rfl
@[simp] theorem setMode_rlu (m : Mode) : (setMode m p).rlu = p.rlu := rfl
@[simp] theorem setMode_sst (m : Mode) : (setMode m p).sst = p.sst := rfl
@[simp] theorem setMode_con (m : Mode) : (setMode m p).con = p.con := rfl
@[simp] theorem setMode_tgt (m : Mode) : (setMode m p).tgt = p.tgt := rfl

@[simp] theorem goIdle_spc : (goIdle p).spc = p.spc := rfl
@[simp] theorem goIdle_sre : (goIdle p).sre = p.sre := rfl
@[simp] theorem goIdle_mmp : (goIdle p).mmp = p.mmp := rfl
@[simp] theorem goIdle_mck : (goIdle p).mck = p.mck := rfl
@[simp] theorem goIdle_ldr : (goIdle p).ldr = p.ldr := rfl
@[simp] theorem goIdle_rlu : (goIdle p).rlu = p.rlu := rfl
@[simp] theorem goIdle_sst : (goIdle p).sst = p.sst := rfl
@[simp] theorem goIdle_con : (goIdle p).con = p.con := rfl
@[simp] theorem goIdle_tgt : (goIdle p).tgt = p.tgt := rfl

@[simp] theorem takeSlot_spc (v : SlotVerb) (tag : Option Tag) (r : Option VerbRun) : (takeSlot v tag r p).spc = p.spc := rfl
@[simp] theorem takeSlot_sre (v : SlotVerb) (tag : Option Tag) (r : Option VerbRun) : (takeSlot v tag r p).sre = p.sre := rfl
@[simp] theorem takeSlot_mmp (v : SlotVerb) (tag : Option Tag) (r : Option VerbRun) : (takeSlot v tag r p).mmp = p.mmp := rfl
@[simp] theorem takeSlot_mck (v : SlotVerb) (tag : Option Tag) (r : Option VerbRun) : (takeSlot v tag r p).mck = p.mck := rfl
@[simp] theorem takeSlot_ldr (v : SlotVerb) (tag : Option Tag) (r : Option VerbRun) : (takeSlot v tag r p).ldr = p.ldr := rfl
@[simp] theorem takeSlot_rlu (v : SlotVerb) (tag : Option Tag) (r : Option VerbRun) : (takeSlot v tag r p).rlu = p.rlu := rfl
@[simp] theorem takeSlot_sst (v : SlotVerb) (tag : Option Tag) (r : Option VerbRun) : (takeSlot v tag r p).sst = p.sst := rfl
@[simp] theorem takeSlot_con (v : SlotVerb) (tag : Option Tag) (r : Option VerbRun) : (takeSlot v tag r p).con = p.con := rfl
@[simp] theorem takeSlot_tgt (v : SlotVerb) (tag : Option Tag) (r : Option VerbRun) : (takeSlot v tag r p).tgt = p.tgt := rfl

@[simp] theorem setVerbRun_spc (v : VerbRun) : (setVerbRun v p).spc = p.spc := rfl
@[simp] theorem setVerbRun_sre (v : VerbRun) : (setVerbRun v p).sre = p.sre := rfl
@[simp] theorem setVerbRun_mmp (v : VerbRun) : (setVerbRun v p).mmp = p.mmp := rfl
@[simp] theorem setVerbRun_mck (v : VerbRun) : (setVerbRun v p).mck = p.mck := rfl
@[simp] theorem setVerbRun_ldr (v : VerbRun) : (setVerbRun v p).ldr = p.ldr := rfl
@[simp] theorem setVerbRun_rlu (v : VerbRun) : (setVerbRun v p).rlu = p.rlu := rfl
@[simp] theorem setVerbRun_sst (v : VerbRun) : (setVerbRun v p).sst = p.sst := rfl
@[simp] theorem setVerbRun_con (v : VerbRun) : (setVerbRun v p).con = p.con := rfl
@[simp] theorem setVerbRun_tgt (v : VerbRun) : (setVerbRun v p).tgt = p.tgt := rfl

@[simp] theorem setHealth_spc (i : Idx) (h : Health) : (setHealth i h p).spc = p.spc := rfl
@[simp] theorem setHealth_sre (i : Idx) (h : Health) : (setHealth i h p).sre = p.sre := rfl
@[simp] theorem setHealth_mck (i : Idx) (h : Health) : (setHealth i h p).mck = p.mck := rfl
@[simp] theorem setHealth_ldr (i : Idx) (h : Health) : (setHealth i h p).ldr = p.ldr := rfl
@[simp] theorem setHealth_rlu (i : Idx) (h : Health) : (setHealth i h p).rlu = p.rlu := rfl
@[simp] theorem setHealth_sup (i : Idx) (h : Health) : (setHealth i h p).sup = p.sup := rfl
@[simp] theorem setHealth_sst (i : Idx) (h : Health) : (setHealth i h p).sst = p.sst := rfl
@[simp] theorem setHealth_con (i : Idx) (h : Health) : (setHealth i h p).con = p.con := rfl
@[simp] theorem setHealth_tgt (i : Idx) (h : Health) : (setHealth i h p).tgt = p.tgt := rfl

@[simp] theorem enterHalted_spc (r : HaltReason) : (enterHalted r p).spc = p.spc := rfl
@[simp] theorem enterHalted_sre (r : HaltReason) : (enterHalted r p).sre = p.sre := rfl
@[simp] theorem enterHalted_mmp (r : HaltReason) : (enterHalted r p).mmp = p.mmp := rfl
@[simp] theorem enterHalted_mck (r : HaltReason) : (enterHalted r p).mck = p.mck := rfl
@[simp] theorem enterHalted_ldr (r : HaltReason) : (enterHalted r p).ldr = p.ldr := rfl
@[simp] theorem enterHalted_sst (r : HaltReason) : (enterHalted r p).sst = p.sst := rfl
@[simp] theorem enterHalted_tgt (r : HaltReason) : (enterHalted r p).tgt = p.tgt := rfl

@[simp] theorem setEntry_sre (port : Port) (e : PortEntry) : (setEntry port e p).sre = p.sre := rfl
@[simp] theorem setEntry_mmp (port : Port) (e : PortEntry) : (setEntry port e p).mmp = p.mmp := rfl
@[simp] theorem setEntry_mck (port : Port) (e : PortEntry) : (setEntry port e p).mck = p.mck := rfl
@[simp] theorem setEntry_ldr (port : Port) (e : PortEntry) : (setEntry port e p).ldr = p.ldr := rfl
@[simp] theorem setEntry_rlu (port : Port) (e : PortEntry) : (setEntry port e p).rlu = p.rlu := rfl
@[simp] theorem setEntry_sup (port : Port) (e : PortEntry) : (setEntry port e p).sup = p.sup := rfl
@[simp] theorem setEntry_sst (port : Port) (e : PortEntry) : (setEntry port e p).sst = p.sst := rfl
@[simp] theorem setEntry_con (port : Port) (e : PortEntry) : (setEntry port e p).con = p.con := rfl
@[simp] theorem setEntry_tgt (port : Port) (e : PortEntry) : (setEntry port e p).tgt = p.tgt := rfl

@[simp] theorem resetEntry_sre (port : Port) (k : PortKind) : (resetEntry port k p).sre = p.sre := rfl
@[simp] theorem resetEntry_mmp (port : Port) (k : PortKind) : (resetEntry port k p).mmp = p.mmp := rfl
@[simp] theorem resetEntry_mck (port : Port) (k : PortKind) : (resetEntry port k p).mck = p.mck := rfl
@[simp] theorem resetEntry_ldr (port : Port) (k : PortKind) : (resetEntry port k p).ldr = p.ldr := rfl
@[simp] theorem resetEntry_rlu (port : Port) (k : PortKind) : (resetEntry port k p).rlu = p.rlu := rfl
@[simp] theorem resetEntry_sup (port : Port) (k : PortKind) : (resetEntry port k p).sup = p.sup := rfl
@[simp] theorem resetEntry_sst (port : Port) (k : PortKind) : (resetEntry port k p).sst = p.sst := rfl
@[simp] theorem resetEntry_con (port : Port) (k : PortKind) : (resetEntry port k p).con = p.con := rfl
@[simp] theorem resetEntry_tgt (port : Port) (k : PortKind) : (resetEntry port k p).tgt = p.tgt := rfl

@[simp] theorem withdraw_sre : (withdraw p).sre = p.sre := rfl
@[simp] theorem withdraw_mmp : (withdraw p).mmp = p.mmp := rfl
@[simp] theorem withdraw_mck : (withdraw p).mck = p.mck := rfl
@[simp] theorem withdraw_ldr : (withdraw p).ldr = p.ldr := rfl
@[simp] theorem withdraw_rlu : (withdraw p).rlu = p.rlu := rfl
@[simp] theorem withdraw_sup : (withdraw p).sup = p.sup := rfl
@[simp] theorem withdraw_sst : (withdraw p).sst = p.sst := rfl
@[simp] theorem withdraw_con : (withdraw p).con = p.con := rfl
@[simp] theorem withdraw_tgt : (withdraw p).tgt = p.tgt := rfl

@[simp] theorem setSre_spc (f : Sre → Sre) : (setSre f p).spc = p.spc := rfl
@[simp] theorem setSre_mmp (f : Sre → Sre) : (setSre f p).mmp = p.mmp := rfl
@[simp] theorem setSre_mck (f : Sre → Sre) : (setSre f p).mck = p.mck := rfl
@[simp] theorem setSre_ldr (f : Sre → Sre) : (setSre f p).ldr = p.ldr := rfl
@[simp] theorem setSre_rlu (f : Sre → Sre) : (setSre f p).rlu = p.rlu := rfl
@[simp] theorem setSre_sup (f : Sre → Sre) : (setSre f p).sup = p.sup := rfl
@[simp] theorem setSre_sst (f : Sre → Sre) : (setSre f p).sst = p.sst := rfl
@[simp] theorem setSre_con (f : Sre → Sre) : (setSre f p).con = p.con := rfl
@[simp] theorem setSre_tgt (f : Sre → Sre) : (setSre f p).tgt = p.tgt := rfl

@[simp] theorem setRun_spc (f : SearchRun → SearchRun) : (setRun f p).spc = p.spc := rfl
@[simp] theorem setRun_mmp (f : SearchRun → SearchRun) : (setRun f p).mmp = p.mmp := rfl
@[simp] theorem setRun_mck (f : SearchRun → SearchRun) : (setRun f p).mck = p.mck := rfl
@[simp] theorem setRun_ldr (f : SearchRun → SearchRun) : (setRun f p).ldr = p.ldr := rfl
@[simp] theorem setRun_rlu (f : SearchRun → SearchRun) : (setRun f p).rlu = p.rlu := rfl
@[simp] theorem setRun_sup (f : SearchRun → SearchRun) : (setRun f p).sup = p.sup := rfl
@[simp] theorem setRun_sst (f : SearchRun → SearchRun) : (setRun f p).sst = p.sst := rfl
@[simp] theorem setRun_con (f : SearchRun → SearchRun) : (setRun f p).con = p.con := rfl
@[simp] theorem setRun_tgt (f : SearchRun → SearchRun) : (setRun f p).tgt = p.tgt := rfl

@[simp] theorem endRun_spc : (endRun p).spc = p.spc := rfl
@[simp] theorem endRun_mmp : (endRun p).mmp = p.mmp := rfl
@[simp] theorem endRun_mck : (endRun p).mck = p.mck := rfl
@[simp] theorem endRun_ldr : (endRun p).ldr = p.ldr := rfl
@[simp] theorem endRun_rlu : (endRun p).rlu = p.rlu := rfl
@[simp] theorem endRun_sup : (endRun p).sup = p.sup := rfl
@[simp] theorem endRun_sst : (endRun p).sst = p.sst := rfl
@[simp] theorem endRun_con : (endRun p).con = p.con := rfl
@[simp] theorem endRun_tgt : (endRun p).tgt = p.tgt := rfl

@[simp] theorem addSpent_spc (k : CandidateKey) : (addSpent k p).spc = p.spc := rfl
@[simp] theorem addSpent_mmp (k : CandidateKey) : (addSpent k p).mmp = p.mmp := rfl
@[simp] theorem addSpent_mck (k : CandidateKey) : (addSpent k p).mck = p.mck := rfl
@[simp] theorem addSpent_ldr (k : CandidateKey) : (addSpent k p).ldr = p.ldr := rfl
@[simp] theorem addSpent_rlu (k : CandidateKey) : (addSpent k p).rlu = p.rlu := rfl
@[simp] theorem addSpent_sup (k : CandidateKey) : (addSpent k p).sup = p.sup := rfl
@[simp] theorem addSpent_sst (k : CandidateKey) : (addSpent k p).sst = p.sst := rfl
@[simp] theorem addSpent_con (k : CandidateKey) : (addSpent k p).con = p.con := rfl
@[simp] theorem addSpent_tgt (k : CandidateKey) : (addSpent k p).tgt = p.tgt := rfl

@[simp] theorem clearSpent_spc : (clearSpent p).spc = p.spc := rfl
@[simp] theorem clearSpent_mmp : (clearSpent p).mmp = p.mmp := rfl
@[simp] theorem clearSpent_mck : (clearSpent p).mck = p.mck := rfl
@[simp] theorem clearSpent_ldr : (clearSpent p).ldr = p.ldr := rfl
@[simp] theorem clearSpent_rlu : (clearSpent p).rlu = p.rlu := rfl
@[simp] theorem clearSpent_sup : (clearSpent p).sup = p.sup := rfl
@[simp] theorem clearSpent_sst : (clearSpent p).sst = p.sst := rfl
@[simp] theorem clearSpent_con : (clearSpent p).con = p.con := rfl
@[simp] theorem clearSpent_tgt : (clearSpent p).tgt = p.tgt := rfl

@[simp] theorem endTxn_spc : (endTxn p).spc = p.spc := rfl
@[simp] theorem endTxn_sre : (endTxn p).sre = p.sre := rfl
@[simp] theorem endTxn_mck : (endTxn p).mck = p.mck := rfl
@[simp] theorem endTxn_ldr : (endTxn p).ldr = p.ldr := rfl
@[simp] theorem endTxn_rlu : (endTxn p).rlu = p.rlu := rfl
@[simp] theorem endTxn_sup : (endTxn p).sup = p.sup := rfl
@[simp] theorem endTxn_sst : (endTxn p).sst = p.sst := rfl
@[simp] theorem endTxn_con : (endTxn p).con = p.con := rfl
@[simp] theorem endTxn_tgt : (endTxn p).tgt = p.tgt := rfl

@[simp] theorem editMap_spc (i : Idx) (r : Option Region) : (editMap i r p).spc = p.spc := rfl
@[simp] theorem editMap_sre (i : Idx) (r : Option Region) : (editMap i r p).sre = p.sre := rfl
@[simp] theorem editMap_mck (i : Idx) (r : Option Region) : (editMap i r p).mck = p.mck := rfl
@[simp] theorem editMap_ldr (i : Idx) (r : Option Region) : (editMap i r p).ldr = p.ldr := rfl
@[simp] theorem editMap_rlu (i : Idx) (r : Option Region) : (editMap i r p).rlu = p.rlu := rfl
@[simp] theorem editMap_sup (i : Idx) (r : Option Region) : (editMap i r p).sup = p.sup := rfl
@[simp] theorem editMap_con (i : Idx) (r : Option Region) : (editMap i r p).con = p.con := rfl
@[simp] theorem editMap_tgt (i : Idx) (r : Option Region) : (editMap i r p).tgt = p.tgt := rfl

@[simp] theorem setCheck_spc (r : CheckRun) : (setCheck r p).spc = p.spc := rfl
@[simp] theorem setCheck_sre (r : CheckRun) : (setCheck r p).sre = p.sre := rfl
@[simp] theorem setCheck_mmp (r : CheckRun) : (setCheck r p).mmp = p.mmp := rfl
@[simp] theorem setCheck_ldr (r : CheckRun) : (setCheck r p).ldr = p.ldr := rfl
@[simp] theorem setCheck_rlu (r : CheckRun) : (setCheck r p).rlu = p.rlu := rfl
@[simp] theorem setCheck_sup (r : CheckRun) : (setCheck r p).sup = p.sup := rfl
@[simp] theorem setCheck_sst (r : CheckRun) : (setCheck r p).sst = p.sst := rfl
@[simp] theorem setCheck_con (r : CheckRun) : (setCheck r p).con = p.con := rfl
@[simp] theorem setCheck_tgt (r : CheckRun) : (setCheck r p).tgt = p.tgt := rfl

@[simp] theorem setLdr_spc (f : Ldr → Ldr) : (setLdr f p).spc = p.spc := rfl
@[simp] theorem setLdr_sre (f : Ldr → Ldr) : (setLdr f p).sre = p.sre := rfl
@[simp] theorem setLdr_mmp (f : Ldr → Ldr) : (setLdr f p).mmp = p.mmp := rfl
@[simp] theorem setLdr_mck (f : Ldr → Ldr) : (setLdr f p).mck = p.mck := rfl
@[simp] theorem setLdr_rlu (f : Ldr → Ldr) : (setLdr f p).rlu = p.rlu := rfl
@[simp] theorem setLdr_sup (f : Ldr → Ldr) : (setLdr f p).sup = p.sup := rfl
@[simp] theorem setLdr_sst (f : Ldr → Ldr) : (setLdr f p).sst = p.sst := rfl
@[simp] theorem setLdr_con (f : Ldr → Ldr) : (setLdr f p).con = p.con := rfl
@[simp] theorem setLdr_tgt (f : Ldr → Ldr) : (setLdr f p).tgt = p.tgt := rfl

@[simp] theorem setPlan_spc (plan : LoadPlan) (c : LoadCursor) : (setPlan plan c p).spc = p.spc := rfl
@[simp] theorem setPlan_sre (plan : LoadPlan) (c : LoadCursor) : (setPlan plan c p).sre = p.sre := rfl
@[simp] theorem setPlan_mmp (plan : LoadPlan) (c : LoadCursor) : (setPlan plan c p).mmp = p.mmp := rfl
@[simp] theorem setPlan_mck (plan : LoadPlan) (c : LoadCursor) : (setPlan plan c p).mck = p.mck := rfl
@[simp] theorem setPlan_rlu (plan : LoadPlan) (c : LoadCursor) : (setPlan plan c p).rlu = p.rlu := rfl
@[simp] theorem setPlan_sup (plan : LoadPlan) (c : LoadCursor) : (setPlan plan c p).sup = p.sup := rfl
@[simp] theorem setPlan_sst (plan : LoadPlan) (c : LoadCursor) : (setPlan plan c p).sst = p.sst := rfl
@[simp] theorem setPlan_con (plan : LoadPlan) (c : LoadCursor) : (setPlan plan c p).con = p.con := rfl
@[simp] theorem setPlan_tgt (plan : LoadPlan) (c : LoadCursor) : (setPlan plan c p).tgt = p.tgt := rfl

@[simp] theorem openTarget_spc : (openTarget p).spc = p.spc := rfl
@[simp] theorem openTarget_sre : (openTarget p).sre = p.sre := rfl
@[simp] theorem openTarget_mmp : (openTarget p).mmp = p.mmp := rfl
@[simp] theorem openTarget_mck : (openTarget p).mck = p.mck := rfl
@[simp] theorem openTarget_ldr : (openTarget p).ldr = p.ldr := rfl
@[simp] theorem openTarget_rlu : (openTarget p).rlu = p.rlu := rfl
@[simp] theorem openTarget_sup : (openTarget p).sup = p.sup := rfl
@[simp] theorem openTarget_sst : (openTarget p).sst = p.sst := rfl
@[simp] theorem openTarget_con : (openTarget p).con = p.con := rfl

@[simp] theorem closeTarget_spc : (closeTarget p).spc = p.spc := rfl
@[simp] theorem closeTarget_sre : (closeTarget p).sre = p.sre := rfl
@[simp] theorem closeTarget_mmp : (closeTarget p).mmp = p.mmp := rfl
@[simp] theorem closeTarget_mck : (closeTarget p).mck = p.mck := rfl
@[simp] theorem closeTarget_ldr : (closeTarget p).ldr = p.ldr := rfl
@[simp] theorem closeTarget_rlu : (closeTarget p).rlu = p.rlu := rfl
@[simp] theorem closeTarget_sup : (closeTarget p).sup = p.sup := rfl
@[simp] theorem closeTarget_sst : (closeTarget p).sst = p.sst := rfl
@[simp] theorem closeTarget_con : (closeTarget p).con = p.con := rfl

@[simp] theorem dropReleased_spc : (dropReleased p).spc = p.spc := rfl
@[simp] theorem dropReleased_sre : (dropReleased p).sre = p.sre := rfl
@[simp] theorem dropReleased_mmp : (dropReleased p).mmp = p.mmp := rfl
@[simp] theorem dropReleased_mck : (dropReleased p).mck = p.mck := rfl
@[simp] theorem dropReleased_ldr : (dropReleased p).ldr = p.ldr := rfl
@[simp] theorem dropReleased_sup : (dropReleased p).sup = p.sup := rfl
@[simp] theorem dropReleased_sst : (dropReleased p).sst = p.sst := rfl
@[simp] theorem dropReleased_con : (dropReleased p).con = p.con := rfl
@[simp] theorem dropReleased_tgt : (dropReleased p).tgt = p.tgt := rfl

@[simp] theorem stopWindow_spc : (stopWindow p).spc = p.spc := rfl
@[simp] theorem stopWindow_sre : (stopWindow p).sre = p.sre := rfl
@[simp] theorem stopWindow_mmp : (stopWindow p).mmp = p.mmp := rfl
@[simp] theorem stopWindow_mck : (stopWindow p).mck = p.mck := rfl
@[simp] theorem stopWindow_ldr : (stopWindow p).ldr = p.ldr := rfl
@[simp] theorem stopWindow_sup : (stopWindow p).sup = p.sup := rfl
@[simp] theorem stopWindow_sst : (stopWindow p).sst = p.sst := rfl
@[simp] theorem stopWindow_con : (stopWindow p).con = p.con := rfl
@[simp] theorem stopWindow_tgt : (stopWindow p).tgt = p.tgt := rfl

@[simp] theorem stopAccepting_spc : (stopAccepting p).spc = p.spc := rfl
@[simp] theorem stopAccepting_sre : (stopAccepting p).sre = p.sre := rfl
@[simp] theorem stopAccepting_mmp : (stopAccepting p).mmp = p.mmp := rfl
@[simp] theorem stopAccepting_mck : (stopAccepting p).mck = p.mck := rfl
@[simp] theorem stopAccepting_ldr : (stopAccepting p).ldr = p.ldr := rfl
@[simp] theorem stopAccepting_rlu : (stopAccepting p).rlu = p.rlu := rfl
@[simp] theorem stopAccepting_sup : (stopAccepting p).sup = p.sup := rfl
@[simp] theorem stopAccepting_sst : (stopAccepting p).sst = p.sst := rfl
@[simp] theorem stopAccepting_con : (stopAccepting p).con = p.con := rfl

@[simp] theorem setOrder_spc (l : List BootEntry) : (setOrder l p).spc = p.spc := rfl
@[simp] theorem setOrder_sre (l : List BootEntry) : (setOrder l p).sre = p.sre := rfl
@[simp] theorem setOrder_mmp (l : List BootEntry) : (setOrder l p).mmp = p.mmp := rfl
@[simp] theorem setOrder_mck (l : List BootEntry) : (setOrder l p).mck = p.mck := rfl
@[simp] theorem setOrder_ldr (l : List BootEntry) : (setOrder l p).ldr = p.ldr := rfl
@[simp] theorem setOrder_rlu (l : List BootEntry) : (setOrder l p).rlu = p.rlu := rfl
@[simp] theorem setOrder_sup (l : List BootEntry) : (setOrder l p).sup = p.sup := rfl
@[simp] theorem setOrder_con (l : List BootEntry) : (setOrder l p).con = p.con := rfl
@[simp] theorem setOrder_tgt (l : List BootEntry) : (setOrder l p).tgt = p.tgt := rfl

@[simp] theorem setSettings_spc (s : Settings) : (setSettings s p).spc = p.spc := rfl
@[simp] theorem setSettings_sre (s : Settings) : (setSettings s p).sre = p.sre := rfl
@[simp] theorem setSettings_mmp (s : Settings) : (setSettings s p).mmp = p.mmp := rfl
@[simp] theorem setSettings_mck (s : Settings) : (setSettings s p).mck = p.mck := rfl
@[simp] theorem setSettings_ldr (s : Settings) : (setSettings s p).ldr = p.ldr := rfl
@[simp] theorem setSettings_rlu (s : Settings) : (setSettings s p).rlu = p.rlu := rfl
@[simp] theorem setSettings_sup (s : Settings) : (setSettings s p).sup = p.sup := rfl
@[simp] theorem setSettings_con (s : Settings) : (setSettings s p).con = p.con := rfl
@[simp] theorem setSettings_tgt (s : Settings) : (setSettings s p).tgt = p.tgt := rfl

@[simp] theorem beginSave_spc (tag : Option Tag) : (beginSave tag p).spc = p.spc := rfl
@[simp] theorem beginSave_sre (tag : Option Tag) : (beginSave tag p).sre = p.sre := rfl
@[simp] theorem beginSave_mmp (tag : Option Tag) : (beginSave tag p).mmp = p.mmp := rfl
@[simp] theorem beginSave_mck (tag : Option Tag) : (beginSave tag p).mck = p.mck := rfl
@[simp] theorem beginSave_ldr (tag : Option Tag) : (beginSave tag p).ldr = p.ldr := rfl
@[simp] theorem beginSave_rlu (tag : Option Tag) : (beginSave tag p).rlu = p.rlu := rfl
@[simp] theorem beginSave_sup (tag : Option Tag) : (beginSave tag p).sup = p.sup := rfl
@[simp] theorem beginSave_con (tag : Option Tag) : (beginSave tag p).con = p.con := rfl
@[simp] theorem beginSave_tgt (tag : Option Tag) : (beginSave tag p).tgt = p.tgt := rfl

@[simp] theorem saveDone_spc (v : Save) : (saveDone v p).spc = p.spc := rfl
@[simp] theorem saveDone_sre (v : Save) : (saveDone v p).sre = p.sre := rfl
@[simp] theorem saveDone_mmp (v : Save) : (saveDone v p).mmp = p.mmp := rfl
@[simp] theorem saveDone_mck (v : Save) : (saveDone v p).mck = p.mck := rfl
@[simp] theorem saveDone_ldr (v : Save) : (saveDone v p).ldr = p.ldr := rfl
@[simp] theorem saveDone_rlu (v : Save) : (saveDone v p).rlu = p.rlu := rfl
@[simp] theorem saveDone_sup (v : Save) : (saveDone v p).sup = p.sup := rfl
@[simp] theorem saveDone_tgt (v : Save) : (saveDone v p).tgt = p.tgt := rfl

@[simp] theorem saveFailed_spc (v : Save) : (saveFailed v p).spc = p.spc := rfl
@[simp] theorem saveFailed_sre (v : Save) : (saveFailed v p).sre = p.sre := rfl
@[simp] theorem saveFailed_mmp (v : Save) : (saveFailed v p).mmp = p.mmp := rfl
@[simp] theorem saveFailed_mck (v : Save) : (saveFailed v p).mck = p.mck := rfl
@[simp] theorem saveFailed_ldr (v : Save) : (saveFailed v p).ldr = p.ldr := rfl
@[simp] theorem saveFailed_rlu (v : Save) : (saveFailed v p).rlu = p.rlu := rfl
@[simp] theorem saveFailed_sup (v : Save) : (saveFailed v p).sup = p.sup := rfl
@[simp] theorem saveFailed_tgt (v : Save) : (saveFailed v p).tgt = p.tgt := rfl

@[simp] theorem replyRate_spc (r : Record) : (replyRate r p).spc = p.spc := rfl
@[simp] theorem replyRate_sre (r : Record) : (replyRate r p).sre = p.sre := rfl
@[simp] theorem replyRate_mmp (r : Record) : (replyRate r p).mmp = p.mmp := rfl
@[simp] theorem replyRate_mck (r : Record) : (replyRate r p).mck = p.mck := rfl
@[simp] theorem replyRate_ldr (r : Record) : (replyRate r p).ldr = p.ldr := rfl
@[simp] theorem replyRate_rlu (r : Record) : (replyRate r p).rlu = p.rlu := rfl
@[simp] theorem replyRate_sup (r : Record) : (replyRate r p).sup = p.sup := rfl
@[simp] theorem replyRate_sst (r : Record) : (replyRate r p).sst = p.sst := rfl
@[simp] theorem replyRate_tgt (r : Record) : (replyRate r p).tgt = p.tgt := rfl

@[simp] theorem endQuestion_spc : (endQuestion p).spc = p.spc := rfl
@[simp] theorem endQuestion_mmp : (endQuestion p).mmp = p.mmp := rfl
@[simp] theorem endQuestion_mck : (endQuestion p).mck = p.mck := rfl
@[simp] theorem endQuestion_ldr : (endQuestion p).ldr = p.ldr := rfl
@[simp] theorem endQuestion_rlu : (endQuestion p).rlu = p.rlu := rfl
@[simp] theorem endQuestion_sup : (endQuestion p).sup = p.sup := rfl
@[simp] theorem endQuestion_sst : (endQuestion p).sst = p.sst := rfl
@[simp] theorem endQuestion_tgt : (endQuestion p).tgt = p.tgt := rfl

@[simp] theorem setConsoleLine_spc (l : Partial) : (setConsoleLine l p).spc = p.spc := rfl
@[simp] theorem setConsoleLine_sre (l : Partial) : (setConsoleLine l p).sre = p.sre := rfl
@[simp] theorem setConsoleLine_mmp (l : Partial) : (setConsoleLine l p).mmp = p.mmp := rfl
@[simp] theorem setConsoleLine_mck (l : Partial) : (setConsoleLine l p).mck = p.mck := rfl
@[simp] theorem setConsoleLine_ldr (l : Partial) : (setConsoleLine l p).ldr = p.ldr := rfl
@[simp] theorem setConsoleLine_rlu (l : Partial) : (setConsoleLine l p).rlu = p.rlu := rfl
@[simp] theorem setConsoleLine_sup (l : Partial) : (setConsoleLine l p).sup = p.sup := rfl
@[simp] theorem setConsoleLine_sst (l : Partial) : (setConsoleLine l p).sst = p.sst := rfl
@[simp] theorem setConsoleLine_tgt (l : Partial) : (setConsoleLine l p).tgt = p.tgt := rfl

@[simp] theorem setTargetLine_spc (l : Partial) : (setTargetLine l p).spc = p.spc := rfl
@[simp] theorem setTargetLine_sre (l : Partial) : (setTargetLine l p).sre = p.sre := rfl
@[simp] theorem setTargetLine_mmp (l : Partial) : (setTargetLine l p).mmp = p.mmp := rfl
@[simp] theorem setTargetLine_mck (l : Partial) : (setTargetLine l p).mck = p.mck := rfl
@[simp] theorem setTargetLine_ldr (l : Partial) : (setTargetLine l p).ldr = p.ldr := rfl
@[simp] theorem setTargetLine_rlu (l : Partial) : (setTargetLine l p).rlu = p.rlu := rfl
@[simp] theorem setTargetLine_sup (l : Partial) : (setTargetLine l p).sup = p.sup := rfl
@[simp] theorem setTargetLine_sst (l : Partial) : (setTargetLine l p).sst = p.sst := rfl
@[simp] theorem setTargetLine_con (l : Partial) : (setTargetLine l p).con = p.con := rfl

@[simp] theorem freeConsole_spc : (freeConsole p).spc = p.spc := rfl
@[simp] theorem freeConsole_sre : (freeConsole p).sre = p.sre := rfl
@[simp] theorem freeConsole_mmp : (freeConsole p).mmp = p.mmp := rfl
@[simp] theorem freeConsole_mck : (freeConsole p).mck = p.mck := rfl
@[simp] theorem freeConsole_ldr : (freeConsole p).ldr = p.ldr := rfl
@[simp] theorem freeConsole_rlu : (freeConsole p).rlu = p.rlu := rfl
@[simp] theorem freeConsole_sup : (freeConsole p).sup = p.sup := rfl
@[simp] theorem freeConsole_sst : (freeConsole p).sst = p.sst := rfl
@[simp] theorem freeConsole_tgt : (freeConsole p).tgt = p.tgt := rfl

@[simp] theorem freeTarget_spc : (freeTarget p).spc = p.spc := rfl
@[simp] theorem freeTarget_sre : (freeTarget p).sre = p.sre := rfl
@[simp] theorem freeTarget_mmp : (freeTarget p).mmp = p.mmp := rfl
@[simp] theorem freeTarget_mck : (freeTarget p).mck = p.mck := rfl
@[simp] theorem freeTarget_ldr : (freeTarget p).ldr = p.ldr := rfl
@[simp] theorem freeTarget_rlu : (freeTarget p).rlu = p.rlu := rfl
@[simp] theorem freeTarget_sup : (freeTarget p).sup = p.sup := rfl
@[simp] theorem freeTarget_sst : (freeTarget p).sst = p.sst := rfl
@[simp] theorem freeTarget_con : (freeTarget p).con = p.con := rfl

/-! ### What an update writes -/

@[simp] theorem setMode_mode (m : Mode) : (setMode m p).sup.mode = m := rfl
@[simp] theorem setMode_slot (m : Mode) : (setMode m p).sup.slot = p.sup.slot := rfl
@[simp] theorem setMode_verbRun (m : Mode) : (setMode m p).sup.verbRun = p.sup.verbRun := rfl
@[simp] theorem setMode_restartPending (m : Mode) : (setMode m p).sup.restartPending = p.sup.restartPending := rfl
@[simp] theorem setMode_settled (m : Mode) : (setMode m p).sup.settled = p.sup.settled := rfl
@[simp] theorem setMode_abortPending (m : Mode) : (setMode m p).sup.abortPending = p.sup.abortPending := rfl
@[simp] theorem goIdle_mode : (goIdle p).sup.mode = .manual none := rfl
@[simp] theorem goIdle_slot : (goIdle p).sup.slot = none := rfl
@[simp] theorem goIdle_verbRun : (goIdle p).sup.verbRun = none := rfl
@[simp] theorem goIdle_runTag : (goIdle p).sup.runTag = none := rfl
@[simp] theorem goIdle_abortPending : (goIdle p).sup.abortPending = false := rfl
@[simp] theorem goIdle_restartPending : (goIdle p).sup.restartPending = p.sup.restartPending := rfl
@[simp] theorem goIdle_settled : (goIdle p).sup.settled = p.sup.settled := rfl
@[simp] theorem takeSlot_mode (v : SlotVerb) (tag : Option Tag) (r : Option VerbRun) :
    (takeSlot v tag r p).sup.mode = .manual (some v) := rfl
@[simp] theorem takeSlot_slot (v : SlotVerb) (tag : Option Tag) (r : Option VerbRun) :
    (takeSlot v tag r p).sup.slot = some (.verb v tag) := rfl
@[simp] theorem takeSlot_verbRun (v : SlotVerb) (tag : Option Tag) (r : Option VerbRun) :
    (takeSlot v tag r p).sup.verbRun = r := rfl
@[simp] theorem takeSlot_settled (v : SlotVerb) (tag : Option Tag) (r : Option VerbRun) :
    (takeSlot v tag r p).sup.settled = p.sup.settled := rfl
@[simp] theorem setVerbRun_verbRun (v : VerbRun) : (setVerbRun v p).sup.verbRun = some v := rfl
@[simp] theorem setVerbRun_mode (v : VerbRun) : (setVerbRun v p).sup.mode = p.sup.mode := rfl
@[simp] theorem setVerbRun_slot (v : VerbRun) : (setVerbRun v p).sup.slot = p.sup.slot := rfl
@[simp] theorem setHealth_health (i : Idx) (h : Health) : (setHealth i h p).mmp.health = p.mmp.health.set i h := rfl
@[simp] theorem setHealth_txn (i : Idx) (h : Health) : (setHealth i h p).mmp.txn = p.mmp.txn := rfl
@[simp] theorem endTxn_txn : (endTxn p).mmp.txn = none := rfl
@[simp] theorem endTxn_health : (endTxn p).mmp.health = p.mmp.health := rfl
@[simp] theorem editMap_map (i : Idx) (r : Option Region) :
    (editMap i r p).sst.settings.map = p.sst.settings.map.set i r := rfl
@[simp] theorem editMap_health (i : Idx) (r : Option Region) :
    (editMap i r p).mmp.health = p.mmp.health.set i .unchecked := rfl
@[simp] theorem setOrder_order (l : List BootEntry) : (setOrder l p).sst.settings.order = l := rfl
@[simp] theorem setCheck_run (r : CheckRun) : (setCheck r p).mck.run = some r := rfl
@[simp] theorem setCheck_defects (r : CheckRun) : (setCheck r p).mck.defects = p.mck.defects := rfl
@[simp] theorem endRun_run : (endRun p).sre.run = none := rfl
@[simp] theorem endRun_log : (endRun p).sre.log = p.sre.log := rfl
@[simp] theorem endRun_waitTimer : (endRun p).sre.waitTimer = none := rfl
@[simp] theorem endRun_questionTimer : (endRun p).sre.questionTimer = none := rfl
@[simp] theorem dropReleased_released : (dropReleased p).rlu.released = none := rfl
@[simp] theorem dropReleased_treset : (dropReleased p).rlu.treset = p.rlu.treset := rfl
@[simp] theorem stopWindow_windowTimer : (stopWindow p).rlu.windowTimer = none := rfl
@[simp] theorem stopWindow_released : (stopWindow p).rlu.released = p.rlu.released := rfl
@[simp] theorem stopWindow_treset : (stopWindow p).rlu.treset = p.rlu.treset := rfl
@[simp] theorem closeTarget_isOpen : (closeTarget p).tgt.isOpen = false := rfl
@[simp] theorem openTarget_isOpen : (openTarget p).tgt.isOpen = true := rfl
@[simp] theorem openTarget_rate : (openTarget p).tgt.rate = p.sst.settings.tgtrate := rfl
@[simp] theorem openTarget_accepting : (openTarget p).tgt.accepting = true := rfl
@[simp] theorem stopAccepting_accepting : (stopAccepting p).tgt.accepting = false := rfl
@[simp] theorem addSpent_spent (k : CandidateKey) :
    (addSpent k p).sre.spent = pushBounded Config.spentCapacity p.sre.spent k := rfl
@[simp] theorem addSpent_log (k : CandidateKey) : (addSpent k p).sre.log = p.sre.log := rfl
@[simp] theorem enterHalted_mode (r : HaltReason) : (enterHalted r p).sup.mode = .halted r := rfl
@[simp] theorem enterHalted_treset (r : HaltReason) : (enterHalted r p).rlu.treset = .asserted := rfl
@[simp] theorem enterHalted_slot (r : HaltReason) : (enterHalted r p).sup.slot = none := rfl

end Machine

end Sys2Proof
end

