-- ==== Sys2Proof/Laws/Ops.lean ====
section
/-! SUPPORT. One lemma for each shared operation that says what it can do: the console arbiter and what is handed to it, the
target transmitter, the bounded lists, the memory port, the slot and the target's hold. -/

namespace Sys2Proof.Machine

/-! ### Console -/

/-- A busy transmitter is left as it is (R182). -/
theorem arbitrateConsole_busy {c : Console} {i : ConsoleItem} (h : c.tx = some i) : arbitrateConsole c = c := by
  simp [arbitrateConsole, h]

/-- A free transmitter takes the oldest reply first (R182). -/
theorem arbitrateConsole_reply {c : Console} {r : ConsoleItem} {rest : List ConsoleItem} (h : c.tx = none)
    (hr : c.replies = r :: rest) : arbitrateConsole c = { c with tx := some r, replies := rest } := by
  simp [arbitrateConsole, h, hr]

/-- The arbiter moves only records: replies, question, notices, lost count and the record being sent. -/
theorem arbitrateConsole_frame (c : Console) :
    (arbitrateConsole c).rate = c.rate ∧ (arbitrateConsole c).pendingRate = c.pendingRate ∧
      (arbitrateConsole c).waitMarking = c.waitMarking ∧ (arbitrateConsole c).line = c.line ∧
      (arbitrateConsole c).lines = c.lines := by
  unfold arbitrateConsole reportLost
  split
  · simp
  · split
    · simp
    · split
      · simp
      · split
        · split <;> simp
        · simp

/-- After the arbiter's choice a free transmitter leaves nothing waiting (R182). -/
theorem arbitrateConsole_free {c : Console} (h : (arbitrateConsole c).tx = none) :
    c.tx = none ∧ c.replies = [] ∧ c.question = none ∧ c.notices = [] ∧ arbitrateConsole c = c := by
  unfold arbitrateConsole reportLost at *
  split at h
  · simp_all
  · split at h
    · simp at h
    · split at h
      · simp at h
      · split at h
        · split at h <;> simp at h
        · simp_all

/-- A notice raised while the transmitter is busy: it joins the queue, or is counted as lost when the queue is full (R180). -/
theorem raise_busy {p : Part} {i : ConsoleItem} (h : p.con.tx = some i) (code : Nat) (tag : Option Tag) (fs : List Field) :
    raise code tag fs p = { p with con := queueNotice (notice code tag fs) p.con } := by
  have : (queueNotice (notice code tag fs) p.con).tx = some i := by unfold queueNotice; split <;> simp [h]
  simp [raise, arbitrateConsole_busy this]

/-- A reply handed while the transmitter is busy waits behind the earlier ones (R173, R182). -/
theorem reply_busy {p : Part} {i : ConsoleItem} (h : p.con.tx = some i) (item : ConsoleItem) :
    reply item p = { p with con := { p.con with replies := p.con.replies ++ [item] } } := by
  simp [reply, arbitrateConsole_busy (c := { p.con with replies := p.con.replies ++ [item] }) (i := i) h]

/-- A reply handed to a free transmitter with no reply waiting is sent at once (R182). -/
theorem reply_free {p : Part} (h : p.con.tx = none) (hr : p.con.replies = []) (item : ConsoleItem) :
    reply item p = { p with con := { p.con with tx := some item, replies := [] } } := by
  simp [reply, arbitrateConsole, h, hr]

/-- A notice that joins the queue or is dropped changes the queue and the lost count alone (R180). -/
theorem queueNotice_frame (n : Record) (c : Console) :
    (queueNotice n c).lines = c.lines ∧ (queueNotice n c).line = c.line ∧ (queueNotice n c).rate = c.rate ∧
      (queueNotice n c).pendingRate = c.pendingRate ∧ (queueNotice n c).waitMarking = c.waitMarking := by
  unfold queueNotice
  split <;> simp

/-- Raising a notice touches neither the receiver nor the rates. -/
theorem raise_frame (p : Part) (code : Nat) (tag : Option Tag) (fs : List Field) :
    (raise code tag fs p).con.lines = p.con.lines ∧ (raise code tag fs p).con.line = p.con.line ∧
      (raise code tag fs p).con.rate = p.con.rate ∧ (raise code tag fs p).con.pendingRate = p.con.pendingRate ∧
      (raise code tag fs p).con.waitMarking = p.con.waitMarking := by
  have h := arbitrateConsole_frame (queueNotice (notice code tag fs) p.con)
  have g := queueNotice_frame (notice code tag fs) p.con
  exact ⟨h.2.2.2.2.trans g.1, h.2.2.2.1.trans g.2.1, h.1.trans g.2.2.1, h.2.1.trans g.2.2.2.1, h.2.2.1.trans g.2.2.2.2⟩

/-! ### Target line -/

/-- A record handed while the target transmitter is busy waits (R185). -/
theorem handTarget_busy {p : Part} {i : TargetItem} (h : p.tgt.tx = some i) (item : TargetItem) :
    handTarget item p = { p with tgt := { p.tgt with queue := p.tgt.queue ++ [item] } } := by
  simp [handTarget, startTarget, h]

/-- A record handed to a free target transmitter with nothing waiting is sent at once (R185). -/
theorem handTarget_free {p : Part} (h : p.tgt.tx = none) (hq : p.tgt.queue = []) (item : TargetItem) :
    handTarget item p = { p with tgt := { p.tgt with tx := some item, queue := [] } } := by
  simp [handTarget, startTarget, h, hq]

/-! ### Bounded lists and counts -/

/-- A list that keeps its newest elements never grows past its limit (R56, R59). -/
theorem pushBounded_length {α : Type} {limit : Nat} (h : 0 < limit) {l : List α} (hl : l.length ≤ limit) (x : α) :
    (pushBounded limit l x).length ≤ limit := by
  unfold pushBounded
  split
  · simp; omega
  · simp; omega

/-- Below its limit nothing is dropped. -/
theorem pushBounded_of_lt {α : Type} {limit : Nat} {l : List α} (hl : l.length < limit) (x : α) :
    pushBounded limit l x = l ++ [x] := by
  simp [pushBounded, hl]

theorem satSucc_le (limit n : Nat) (h : n ≤ limit) : satSucc limit n ≤ limit := by
  unfold satSucc; split <;> omega

/-! ### Attempt log -/

/-- Appending a record: the log, the next sequence number, and one notice (R56, R57). -/
theorem appendRecord_sre (p : Part) (tag : Option Tag) (f : AttemptFields) (o : AttemptOutcome) (d : Option Nat)
    (i : Option Word32) :
    (appendRecord tag f o d i p).sre =
      { p.sre with
        log := pushBounded Config.logCapacity p.sre.log ⟨p.sre.nextSeq, f, o, d, i⟩
        nextSeq := if p.sre.nextSeq = 0xFFFF then 1 else p.sre.nextSeq + 1 } := rfl

/-! ### Memory port -/

/-- A request that the port takes is word-aligned, in a region of the map, not a write into a PRESERVE region, and made while the
target is held (R75). -/
theorem judgeTxn_none {kind : TxnKind} {a : Nat} {p : Part} (h : judgeTxn kind a p = none) :
    p.rlu.treset = .asserted ∧ a % 4 = 0 ∧
      ∃ i, regionAt p.sst.settings.map a = some i ∧
        ∀ w r, kind = .write w → p.sst.settings.map.get i = some r → r.preserve = false := by
  unfold judgeTxn at h
  split at h
  · simp at h
  · rename_i hf
    split at h
    · simp at h
    · rename_i ha
      have ht : p.rlu.treset = .asserted := by cases hx : p.rlu.treset <;> simp_all
      refine ⟨ht, by omega, ?_⟩
      split at h
      · simp at h
      · rename_i i hi
        refine ⟨i, hi, ?_⟩
        intro w r hk hr
        subst hk
        simp [hr] at h
        exact h

/-- A request either goes out as the transaction in flight, or is refused and changes nothing (R75). -/
theorem requestTxn_cases (kind : TxnKind) (a : Nat) (rq : TxnRequester) (p : Part) :
    (judgeTxn kind a p = none ∧
      requestTxn kind a rq p = ({ p with mmp := { p.mmp with txn := some ⟨kind, a, rq⟩ } }, none)) ∨
    ∃ r, judgeTxn kind a p = some r ∧ requestTxn kind a rq p = (p, some r) := by
  unfold requestTxn
  cases h : judgeTxn kind a p with
  | none => exact .inl ⟨rfl, rfl⟩
  | some r => exact .inr ⟨r, rfl, rfl⟩

/-! ### Lines -/

/-- A verb line that nothing waits ahead of is taken at once (R173). -/
theorem arriveConsole_idle {p : Part} (hl : p.con.lines = []) (hr : p.con.replies = []) (take : Part → Part)
    (q : QueuedLine) : arriveConsole take q p = take p := by
  simp [arriveConsole, hl, hr]

/-- The target line while it is closed takes nothing (R169). -/
theorem arriveTarget_closed {p : Part} (h : p.tgt.isOpen = false) (take : Part → Part) (q : QueuedLine) :
    arriveTarget take q p = p := by
  simp [arriveTarget, h]

/-- A target line that nothing waits ahead of is taken at once (R174). -/
theorem arriveTarget_idle {p : Part} (ho : p.tgt.isOpen = true) (ha : p.tgt.accepting = true) (hl : p.tgt.lines = [])
    (hq : p.tgt.queue = []) (take : Part → Part) (q : QueuedLine) : arriveTarget take q p = take p := by
  simp [arriveTarget, targetTakes, ho, ha, hl, hq]

/-- An admitted request reaches its owner (R141). -/
theorem takeConsole_admitted {p : Part} {r : Request} (hi : p.sup.mode ≠ .init) (hp : p.sup.restartPending = false)
    (ha : r.verb = .go ∨ admits r.verb p.sup.mode = true) : takeConsole r p = ownerOf r.verb r.tag r.args p := by
  simp [takeConsole, hi, hp, ha]

/-- A request that the mode does not admit is refused with 120 (R141). -/
theorem takeConsole_refused {p : Part} {r : Request}
    (h : p.sup.mode = .init ∨ p.sup.restartPending = true ∨ (r.verb ≠ .go ∧ admits r.verb p.sup.mode = false)) :
    takeConsole r p = refuse 120 r.tag p := by
  unfold takeConsole
  rcases h with h | h | ⟨h, h'⟩ <;> simp [*]

/-! ### The end of a release -/

/-- A hold asserts TRESET, stops the window, closes the target line and, for a RELEASED image, discards it with its plan; the
last handoff record is kept (R99, R125, R128). -/
theorem holdTarget_spec (p : Part) :
    (holdTarget p).rlu = { p.rlu with treset := .asserted, windowTimer := none } ∧
      (holdTarget p).tgt = { closedTarget with rate := p.tgt.rate } ∧
      (p.ldr.image = .released → (holdTarget p).ldr = { p.ldr with image := .nothing, plan := none }) ∧
      (p.ldr.image ≠ .released → (holdTarget p).ldr = p.ldr) := by
  unfold holdTarget imageNoneAtHold closeTarget setLdr
  cases h : p.ldr.image <;> simp [h]

end Sys2Proof.Machine
end

