-- ==== Sys2Proof/Laws/PerInstr.lean ====
section
/-! SUPPORT. Facts about every command as written, one lemma for each constructor: a well-formed command that stands for a
request line stands for one that the receiver keeps whole (R170). -/

namespace Sys2Proof.Laws

open Sys2Proof

/-- The words of the line that a well-formed command stands for make a line that the receiver keeps: words of printable
characters, together at most 80 (R170, R176). -/
def RequestLine.Statement (i : Instr) : Prop :=
  i.wellFormed = true → ∀ (l : Line) (words : List Text), i.line? = some (l, words) → isLine words = true

/-- A command whose well-formedness is that of its line. -/
theorem RequestLine.of_line {i : Instr} {l : Line} {words : List Text} (h : i.line? = some (l, words))
    (hw : i.wellFormed = true → isLine words = true) : RequestLine.Statement i := by
  intro hi l' words' h'
  obtain ⟨rfl, rfl⟩ := Prod.mk.inj (Option.some.inj (h.symm.trans h'))
  exact hw hi

/-- A command that is no line. -/
theorem RequestLine.of_none {i : Instr} (h : i.line? = none) : RequestLine.Statement i := by
  intro _ l words h'
  simp [h] at h'

theorem RequestLine.powerOn : RequestLine.Statement .powerOn :=
  RequestLine.of_none rfl

theorem RequestLine.pinReset : RequestLine.Statement .pinReset :=
  RequestLine.of_none rfl

theorem RequestLine.settingsSettled : RequestLine.Statement .settingsSettled :=
  RequestLine.of_none rfl

theorem RequestLine.initTimerExpiry : RequestLine.Statement .initTimerExpiry :=
  RequestLine.of_none rfl

theorem RequestLine.flashExchangeEnd (p : Port) (a : FlashAnswer) : RequestLine.Statement (.flashExchangeEnd p a) :=
  RequestLine.of_none rfl

theorem RequestLine.cardExchangeEnd (p : Port) (a : CardAnswer) : RequestLine.Statement (.cardExchangeEnd p a) :=
  RequestLine.of_none rfl

theorem RequestLine.blockExchangeEnd (p : Port) (a : BlockAnswer) : RequestLine.Statement (.blockExchangeEnd p a) :=
  RequestLine.of_none rfl

theorem RequestLine.linkAnswerFrame (p : Port) (bytes : List Byte) : RequestLine.Statement (.linkAnswerFrame p bytes) :=
  RequestLine.of_none rfl

theorem RequestLine.exchangeTimeout (p : Port) : RequestLine.Statement (.exchangeTimeout p) :=
  RequestLine.of_none rfl

theorem RequestLine.cardSenseChange (p : Port) (card : Bool) : RequestLine.Statement (.cardSenseChange p card) :=
  RequestLine.of_none rfl

theorem RequestLine.cardInserted (p : Port) : RequestLine.Statement (.cardInserted p) :=
  RequestLine.of_none rfl

theorem RequestLine.cardRemoved (p : Port) : RequestLine.Statement (.cardRemoved p) :=
  RequestLine.of_none rfl

theorem RequestLine.questionTimerExpiry : RequestLine.Statement .questionTimerExpiry :=
  RequestLine.of_none rfl

theorem RequestLine.roundWaitExpiry : RequestLine.Statement .roundWaitExpiry :=
  RequestLine.of_none rfl

theorem RequestLine.windowExpiry : RequestLine.Statement .windowExpiry :=
  RequestLine.of_none rfl

theorem RequestLine.memoryResponse (mrdy merr : Bool) (word : Word32) : RequestLine.Statement (.memoryResponse mrdy merr word) :=
  RequestLine.of_none rfl

theorem RequestLine.responseTimeout : RequestLine.Statement .responseTimeout :=
  RequestLine.of_none rfl

theorem RequestLine.saveWriteEnd (e : WriteEnd) : RequestLine.Statement (.saveWriteEnd e) :=
  RequestLine.of_none rfl

theorem RequestLine.saveTimerExpiry : RequestLine.Statement .saveTimerExpiry :=
  RequestLine.of_none rfl

theorem RequestLine.receivedByte (l : Line) (b : Byte) : RequestLine.Statement (.receivedByte l b) :=
  RequestLine.of_none rfl

theorem RequestLine.framingError (l : Line) : RequestLine.Statement (.framingError l) :=
  RequestLine.of_none rfl

theorem RequestLine.lineBreak : RequestLine.Statement .lineBreak :=
  RequestLine.of_none rfl

theorem RequestLine.badLine (l : Line) : RequestLine.Statement (.badLine l) :=
  RequestLine.of_none rfl

theorem RequestLine.lineTooLong (l : Line) : RequestLine.Statement (.lineTooLong l) :=
  RequestLine.of_none rfl

theorem RequestLine.unknownVerb (l : Line) (tag : Option Tag) (words : List Text) : RequestLine.Statement (.unknownVerb l tag words) :=
  RequestLine.of_line rfl fun h => by
    simp only [Instr.wellFormed, Bool.and_eq_true] at h
    exact h.1

theorem RequestLine.abort (tag : Option Tag) (args : List Text) : RequestLine.Statement (.abort tag args) :=
  RequestLine.of_line rfl id

theorem RequestLine.answer (tag : Option Tag) (args : List Text) : RequestLine.Statement (.answer tag args) :=
  RequestLine.of_line rfl id

theorem RequestLine.boot (tag : Option Tag) (args : List Text) : RequestLine.Statement (.boot tag args) :=
  RequestLine.of_line rfl id

theorem RequestLine.check (tag : Option Tag) (args : List Text) : RequestLine.Statement (.check tag args) :=
  RequestLine.of_line rfl id

theorem RequestLine.defaults (tag : Option Tag) (args : List Text) : RequestLine.Statement (.defaults tag args) :=
  RequestLine.of_line rfl id

theorem RequestLine.defects (tag : Option Tag) (args : List Text) : RequestLine.Statement (.defects tag args) :=
  RequestLine.of_line rfl id

theorem RequestLine.get (tag : Option Tag) (args : List Text) : RequestLine.Statement (.get tag args) :=
  RequestLine.of_line rfl id

theorem RequestLine.go (tag : Option Tag) (args : List Text) : RequestLine.Statement (.go tag args) :=
  RequestLine.of_line rfl id

theorem RequestLine.hold (tag : Option Tag) (args : List Text) : RequestLine.Statement (.hold tag args) :=
  RequestLine.of_line rfl id

theorem RequestLine.log (tag : Option Tag) (args : List Text) : RequestLine.Statement (.log tag args) :=
  RequestLine.of_line rfl id

theorem RequestLine.mapPut (tag : Option Tag) (args : List Text) : RequestLine.Statement (.mapPut tag args) :=
  RequestLine.of_line rfl id

theorem RequestLine.mapDel (tag : Option Tag) (args : List Text) : RequestLine.Statement (.mapDel tag args) :=
  RequestLine.of_line rfl id

theorem RequestLine.mapList (tag : Option Tag) (args : List Text) : RequestLine.Statement (.mapList tag args) :=
  RequestLine.of_line rfl id

theorem RequestLine.orderPut (tag : Option Tag) (args : List Text) : RequestLine.Statement (.orderPut tag args) :=
  RequestLine.of_line rfl id

theorem RequestLine.orderDel (tag : Option Tag) (args : List Text) : RequestLine.Statement (.orderDel tag args) :=
  RequestLine.of_line rfl id

theorem RequestLine.orderMove (tag : Option Tag) (args : List Text) : RequestLine.Statement (.orderMove tag args) :=
  RequestLine.of_line rfl id

theorem RequestLine.orderList (tag : Option Tag) (args : List Text) : RequestLine.Statement (.orderList tag args) :=
  RequestLine.of_line rfl id

theorem RequestLine.peek (tag : Option Tag) (args : List Text) : RequestLine.Statement (.peek tag args) :=
  RequestLine.of_line rfl id

theorem RequestLine.poke (tag : Option Tag) (args : List Text) : RequestLine.Statement (.poke tag args) :=
  RequestLine.of_line rfl id

theorem RequestLine.ports (tag : Option Tag) (args : List Text) : RequestLine.Statement (.ports tag args) :=
  RequestLine.of_line rfl id

theorem RequestLine.probe (tag : Option Tag) (args : List Text) : RequestLine.Statement (.probe tag args) :=
  RequestLine.of_line rfl id

theorem RequestLine.restart (tag : Option Tag) (args : List Text) : RequestLine.Statement (.restart tag args) :=
  RequestLine.of_line rfl id

theorem RequestLine.save (tag : Option Tag) (args : List Text) : RequestLine.Statement (.save tag args) :=
  RequestLine.of_line rfl id

theorem RequestLine.seek (tag : Option Tag) (args : List Text) : RequestLine.Statement (.seek tag args) :=
  RequestLine.of_line rfl id

theorem RequestLine.set (tag : Option Tag) (args : List Text) : RequestLine.Statement (.set tag args) :=
  RequestLine.of_line rfl id

theorem RequestLine.spent (tag : Option Tag) (args : List Text) : RequestLine.Statement (.spent tag args) :=
  RequestLine.of_line rfl id

theorem RequestLine.stage (tag : Option Tag) (args : List Text) : RequestLine.Statement (.stage tag args) :=
  RequestLine.of_line rfl id

theorem RequestLine.stat (l : Line) (tag : Option Tag) (args : List Text) : RequestLine.Statement (.stat l tag args) :=
  RequestLine.of_line rfl id

theorem RequestLine.volume (tag : Option Tag) (args : List Text) : RequestLine.Statement (.volume tag args) :=
  RequestLine.of_line rfl id

theorem RequestLine.alive (tag : Option Tag) (args : List Text) : RequestLine.Statement (.alive tag args) :=
  RequestLine.of_line rfl id

theorem RequestLine.revert (tag : Option Tag) (args : List Text) : RequestLine.Statement (.revert tag args) :=
  RequestLine.of_line rfl id

theorem RequestLine.hand (tag : Option Tag) (args : List Text) : RequestLine.Statement (.hand tag args) :=
  RequestLine.of_line rfl id

theorem RequestLine.reboot (tag : Option Tag) (args : List Text) : RequestLine.Statement (.reboot tag args) :=
  RequestLine.of_line rfl id

theorem RequestLine.consoleRecordSent : RequestLine.Statement .consoleRecordSent :=
  RequestLine.of_none rfl

theorem RequestLine.targetRecordSent : RequestLine.Statement .targetRecordSent :=
  RequestLine.of_none rfl

theorem RequestLine.returnToMarking (l : Line) : RequestLine.Statement (.returnToMarking l) :=
  RequestLine.of_none rfl

theorem RequestLine.targetLineSpacingHeld : RequestLine.Statement .targetLineSpacingHeld :=
  RequestLine.of_none rfl

theorem RequestLine.linkRequestSent (p : Port) : RequestLine.Statement (.linkRequestSent p) :=
  RequestLine.of_none rfl

theorem RequestLine.malformedTag (l : Line) (rest : Text) (words : List Text) : RequestLine.Statement (.malformedTag l rest words) :=
  RequestLine.of_line rfl fun h => by
    simp only [Instr.wellFormed, Bool.and_eq_true] at h
    exact h.1

end Sys2Proof.Laws
end

