-- ==== Sys2Proof/Tests/Slice0.lean ====
section
/-! SUPPORT. Tests of the model: operands that the well-formedness check refuses, values the spec gives as examples, and for
each statement of Certificates/Slice0/Obligations.lean with hypotheses a state and operands that meet them. -/

namespace Sys2Proof.Tests

open Sys2Proof Sys2Proof.Machine

-- The tests are evaluated one after another: all of them at once would take a thread and its stack each.
set_option Elab.async false

/-! ### States to test on -/

/-- Words of a request. -/
def ws (l : List String) : List Text := l.map String.toList

/-- A part with the default settings in MANUAL IDLE, nothing waiting and the console free. -/
def idle : Part :=
  { powerReset .powerOn none none ⟨false, false, false, false⟩ with
    spc :=
      { ports := some (freshPorts defaultSettings.kinds ⟨false, false, false, false⟩)
        sense := ⟨false, false, false, false⟩ }
    sup :=
      { mode := .manual none, cause := .powerOn, breakFlag := false, restartPending := false, slot := none, runTag := none,
        initTimer := false, settled := true, abortPending := false, verbRun := none }
    con :=
      { rate := 38400, pendingRate := none, waitMarking := false, line := ⟨[], .nothing⟩, lines := [], replies := [],
        question := none, notices := [], lost := 0, tx := none } }

/-- A part as a state with no command waiting. -/
def on (p : Part) : State := { toPart := p, pending := [] }

/-- The part after a command. -/
def after (c : Instr) (p : Part) : Part :=
  match exec c (on p) with
  | .next t => t.toPart
  | _ => p

/-- The form and code of the record that the console is sending. -/
def said (p : Part) : Option (RecordForm × Nat) := p.con.tx.bind fun i => i.record.map fun r => (r.form, r.code)

/-- The form and code of the record that the target line is sending. -/
def saidTarget (p : Part) : Option (RecordForm × Nat) := p.tgt.tx.map fun i => (i.record.form, i.record.code)

def inMode (m : Mode) (p : Part) : Part := { p with sup := { p.sup with mode := m } }

def holding (h : Holder) (p : Part) : Part := { p with sup := { p.sup with slot := some h } }

/-- A record to stand in a queue. -/
def someReply : ConsoleItem := { record := some (accepted 0 none []) }

/-- The part while the console sends a record. -/
def sending (p : Part) : Part := { p with con := { p.con with tx := some someReply } }

/-- An image of one FILL segment. -/
def fillImage : Image where
  port := .sp0
  unit := 0
  kind := .flash
  raw := false
  imageId := 0xA5
  entry := 0x1000
  handoff := none
  label := none
  confirm := 0
  segments := [⟨1, 0x1000, 8, none, none, .r1⟩, ⟨2, 0x2000, 4, none, none, .r1⟩]

def fillPlan (rq : LoadRequester) (cursor : Option LoadCursor) : LoadPlan where
  image := fillImage
  fields := ⟨1, 1, .sp0, 0⟩
  reason := .auto
  requester := rq
  tag := none
  verify := true
  cursor := cursor
  written := []

/-- A candidate that runs. -/
def candidate (kind : ReleaseKind) (phase : WindowPhase) : Released where
  key := ⟨.sp0, 0, 0xA5⟩
  fields := ⟨1, 1, .sp0, 0⟩
  kind := kind
  tag := none
  entry := 0x1000
  handoff := none
  window := some 20
  phase := phase

/-- The part while the target runs. -/
def running (kind : ReleaseKind) (phase : WindowPhase) : Part :=
  { inMode (.targetRun phase) idle with
    ldr := { image := .released, plan := some (fillPlan .search none), handoff := some ⟨0x8000, List.replicate 64 0⟩ }
    rlu :=
      { treset := .freed
        released := some (candidate kind phase)
        windowTimer := match phase with | .confirmWait => some 20 | .running => none }
    tgt := { closedTarget with isOpen := true, accepting := true } }

/-- The part in a search that asks about a volume. -/
def asking : Part :=
  { inMode (.auto .question) (holding .searchRun idle) with
    sre :=
      { idle.sre with
        run := some ⟨.start, none, 1, .normal, 1, 0, 0, some ⟨List.replicate 512 0x11, 100, none⟩, .question⟩
        question := some ⟨1, .sp1, 0⟩
        questionId := 1
        questionTimer := some 30 } }

/-- The part in the wait between two rounds. -/
def waiting : Part :=
  { inMode (.auto .wait) (holding .searchRun idle) with
    sre := { idle.sre with run := some ⟨.start, none, 1, .normal, 0, 0, 0, none, .waiting⟩, waitTimer := some 5 } }

/-- The part with an operation of a port in flight. -/
def exchanging (port : Port) (kind : PortKind) (op : PortOp) (rq : Requester) (run : Option VerbRun) : Part :=
  let f : InFlight := { op := op, unit := 0, requester := rq, timer := some kind.timeoutMs, frame := [], received := [] }
  let p := setEntry port { freshEntry kind true with state := .busy, op := some f } idle
  { inMode (.manual (some .probe)) (holding (.verb .probe none) p) with
    sup := { (inMode (.manual (some .probe)) (holding (.verb .probe none) p)).sup with verbRun := run } }

/-- The entry of a port while its exchange of a PROBE verb runs. -/
def probed (port : Port) (kind : PortKind) : Part := exchanging port kind .probe .probeVerb (some (.probe none port 0))

theorem idle_taken : requestTaken idle := ⟨⟨rfl, rfl⟩, by decide, rfl⟩
theorem idle_manual : inManual idle := ⟨none, rfl⟩
theorem running_taken (k : ReleaseKind) (ph : WindowPhase) : requestTaken (running k ph) := ⟨⟨rfl, rfl⟩, nofun, rfl⟩
theorem running_open (k : ReleaseKind) (ph : WindowPhase) : targetTaken (running k ph) := ⟨rfl, rfl, rfl, rfl⟩

/-! ### Well-formedness: one ill-formed term for each check -/

theorem test_illFormed_flash_block : (Instr.flashExchangeEnd .sp0 (.block [] false)).wellFormed = false := by decide
theorem test_illFormed_card_block : (Instr.cardExchangeEnd .sp1 (.block [0] true)).wellFormed = false := by decide
theorem test_illFormed_block_block : (Instr.blockExchangeEnd .sp2 (.readyBlock [])).wellFormed = false := by decide
theorem test_illFormed_link_no_bytes : (Instr.linkAnswerFrame .sp3 []).wellFormed = false := by decide

theorem test_illFormed_words :
    (Instr.get none (ws ["confirm"])).wellFormed = false ∧ (Instr.get none (ws ["A B"])).wellFormed = false ∧
      (Instr.get none (ws [""])).wellFormed = false ∧ (Instr.get none [List.replicate 77 'A']).wellFormed = false ∧
      (Instr.get none [List.replicate 76 'A']).wellFormed = true := by decide +kernel

theorem test_illFormed_unknownVerb :
    (Instr.unknownVerb .console none (ws ["GO"])).wellFormed = false ∧
      (Instr.unknownVerb .console none []).wellFormed = false ∧
      (Instr.unknownVerb .console none (ws ["#0A"])).wellFormed = false ∧
      (Instr.unknownVerb .target none (ws ["STAT"])).wellFormed = false ∧
      (Instr.unknownVerb .target none (ws ["GO"])).wellFormed = true := by decide +kernel

theorem test_illFormed_malformedTag :
    (Instr.malformedTag .console "0A".toList []).wellFormed = false ∧
      (Instr.malformedTag .console "A".toList []).wellFormed = true := by decide +kernel

/-! ### Values that the spec gives -/

/-- 00_scope.md section 5.3. -/
theorem test_check_codes :
    crc32 ("123456789".toList.map fun c => BitVec.ofNat 8 c.toNat) = 0xCBF43926 ∧
      crc16 ("123456789".toList.map fun c => BitVec.ofNat 8 c.toNat) = 0x29B1 := by decide +kernel

/-- R14: k = 17 gives 4000 blocks. -/
theorem test_flash_capacity : flashResult .probe (.identify 1 2 0x17) = some (.ready 0x4000) := by decide +kernel

/-- R57. -/
theorem test_attempt_text :
    joinText ((AttemptRecord.textFields ⟨0xC, ⟨1, 4, .sp3, 1⟩, .loaded, none, some 0x3C00A011⟩).map Field.text) =
        "C 1 4 3 1 LOADED ID 3C00A011".toList ∧
      joinText ((AttemptRecord.textFields ⟨2, ⟨1, 2, .sp0, 0⟩, .readFault, some 0, none⟩).map Field.text) =
        "2 1 2 0 0 READ-FAULT DETAIL 0".toList := by decide +kernel

/-- R79: the reply of a PEEK 100 3 whose second word gets no response. -/
theorem test_peek_text :
    (multiLine none ([(0x100, PeekWord.word 0xE59FF018), (0x104, .code 602), (0x108, .word 0)].map peekLine)).text =
      "+000 3\r\n=100 E59FF018\r\n=104 -602\r\n=108 0\r\n".toList := by decide +kernel

/-- R97. -/
theorem test_defects_text :
    (multiLine none
        (defectLines ⟨none, [⟨0x400, .mismatch, some 0x400, some 0x410, 1⟩, ⟨0xF00FFFC, .noResponse, none, none, 1⟩], 0⟩)).text =
      ("+000 3\r\n=400 MISMATCH EXPECT 400 SEEN 410 PASS 1\r\n=F00FFFC NO-RESPONSE PASS 1\r\n=DROPPED 0\r\n").toList := by
  decide +kernel

/-- R41, the two moves of its example, on entries told apart by their tries. -/
theorem test_order_move :
    let e (n : Nat) : BootEntry := ⟨.sp0, 0, 0, n, .skip, false⟩
    moveEntry [e 1, e 2, e 3, e 4, e 5] 2 4 = [e 1, e 3, e 4, e 2, e 5] ∧
      moveEntry [e 1, e 3, e 4, e 2, e 5] 5 1 = [e 5, e 1, e 3, e 4, e 2] := by decide +kernel

/-- R151: the STAT reply of its example. -/
theorem test_stat_text :
    (statRecord none
        { running .automatic .confirmWait with
          sre :=
            { idle.sre with
              lastRound := 1
              releaseCount := 1
              log := List.replicate 0xD ⟨1, ⟨1, 1, .sp0, 0⟩, .loaded, none, none⟩ }
          sst := { idle.sst with source := .a } }).text =
      ("+000 MODE TARGET-RUN PHASE CONFIRM-WAIT CAUSE POWER-ON ROUND 1 ENTRY 0 UNIT 0 IMAGE RELEASED COUNT 1 BUDGET 3 " ++
        "QUESTION 0 LOST 0 SOURCE A SAVING NO SPENT 0 LOG D DEFECTS 0\r\n").toList := by decide +kernel

/-! ### States and operands that meet the hypotheses of the statements

Each theorem is named for its statement. It gives states and operands that meet the hypotheses of the statement's clauses, at the
ends of their ranges, most of them by the answer that the clause names. -/

theorem idle_quiet : consoleQuiet idle := ⟨rfl, rfl⟩

/-- A console line queue that is full. -/
def crowded : Part :=
  { idle with con := { idle.con with lines := [.bad, .bad], replies := [someReply], tx := some someReply } }

/-- The code of the newest notice that waits. -/
def lastNotice (p : Part) : Option Nat := p.con.notices.getLast?.map Record.code

/-- An open target line whose line queue is full. -/
def crowdedTarget : Part :=
  { running .manual .running with
    tgt :=
      { (running .manual .running).tgt with
        lines := [.bad, .bad]
        queue := [{ record := refusal 102 none }]
        tx := some { record := refusal 102 none } } }

theorem witness_RefusedRequestsOnlyReply :
    (Instr.stat .console none (ws ["1G"])).verb? = some (.console, .stat, none, ws ["1G"]) ∧
      classifyWords (ws ["1G"]) = .inl 103 ∧ classifyWords (ws ["123456789"]) = .inl 104 ∧ consoleQuiet idle ∧
      targetTaken (running .manual .running) ∧
      said (after (.stat .console none (ws ["1G"])) idle) = some (.refused, 103) ∧
      saidTarget (after (.alive none (ws ["123456789"])) (running .manual .confirmWait)) = some (.refused, 104) ∧
      said (after (.stat .console none []) (inMode .init idle)) = some (.refused, 120) ∧
      said (after (.peek none []) (inMode (.auto .wait) idle)) = some (.refused, 120) ∧
      said (after (.abort none []) idle) = some (.refused, 120) ∧ said (after (.hold none []) idle) = some (.refused, 120) ∧
      said (after (.save none []) (inMode (.targetRun .running) idle)) = some (.refused, 120) ∧
      said (after (.ports none []) (inMode (.halted .check) idle)) = some (.refused, 120) :=
  ⟨rfl, by decide +kernel, by decide +kernel, idle_quiet, running_open _ _, by decide +kernel⟩

theorem witness_LinesThatRlnAnswers :
    (Instr.badLine .target).wellFormed = true ∧ (Instr.lineTooLong .console).wellFormed = true ∧
      (Instr.unknownVerb .console (some 1) []).wellFormed = true ∧
      (Instr.malformedTag .target "Z".toList []).wellFormed = true ∧ consoleQuiet idle ∧ crowded.con.lines.length = 2 ∧
      targetTaken (running .manual .running) ∧ crowdedTarget.tgt.lines.length = 2 ∧ idle.tgt.isOpen = false ∧
      said (after (.badLine .console) idle) = some (.refused, 102) ∧
      said (after (.unknownVerb .console (some 1) []) idle) = some (.refused, 110) ∧
      lastNotice (after (.lineTooLong .console) crowded) = some 105 ∧
      saidTarget (after (.malformedTag .target "Z".toList []) (running .manual .running)) = some (.refused, 111) ∧
      said (after (.badLine .target) crowdedTarget) = some (.notice, 106) :=
  ⟨rfl, rfl, by decide +kernel, by decide +kernel, idle_quiet, rfl, running_open _ _, rfl, rfl, by decide +kernel⟩

theorem witness_WrittenNumbersReadBack :
    classifyWord (hexText 0) = .inr (.num 0) ∧ classifyWord (hexText 0xFFFFFFFF) = .inr (.num 0xFFFFFFFF) ∧
      classifyWord (Nat.toDigits 10 4294967295 ++ ['.']) = .inr (.num 4294967295) ∧
      classifyWord "4294967296.".toList = .inl 104 := by decide +kernel

theorem witness_RequestLinesReadBack :
    (Instr.mapDel (some 0xA) (ws ["8"])).wellFormed = true ∧
      (Instr.mapDel (some 0xA) (ws ["8"])).verb? = some (.console, .mapDel, some 0xA, ws ["8"]) ∧
      lineText (some 0xA) (Verb.mapDel.words ++ ws ["8"]) = "#0A MAP DEL 8".toList ∧
      parseLine .console "#0A MAP DEL 8".toList = .request ⟨.mapDel, some 0xA, [.num 8]⟩ := by decide +kernel

/-- The bytes of characters. -/
def bytesOf (t : String) : List Byte := t.toList.map fun c => BitVec.ofNat 8 c.toNat

theorem witness_TypedLineIsItsCommand :
    (Instr.orderDel none (ws ["4"])).wellFormed = true ∧
      (Instr.orderDel none (ws ["4"])).verb? = some (.console, .orderDel, none, ws ["4"]) ∧
      (bytesOf "Order del 4").map foldChar = lineText none (Verb.orderDel.words ++ ws ["4"]) ∧
      consoleQuiet idle ∧ idle.con.waitMarking = false ∧ idle.con.line = ⟨[], .nothing⟩ ∧
      (Instr.reboot none []).verb? = some (.target, .reboot, none, []) ∧
      (bytesOf "reboot").map foldChar = lineText none Verb.reboot.words ∧ targetTaken (running .manual .running) ∧
      (running .manual .running).tgt.waitMarking = false ∧ (running .manual .running).tgt.line = ⟨[], .nothing⟩ :=
  ⟨by decide +kernel, rfl, by decide +kernel, idle_quiet, rfl, rfl, rfl, by decide +kernel, running_open _ _, rfl, rfl⟩

/-- A console whose partial line holds some characters. -/
def typing (n : Nat) (mark : LineMark) : Part :=
  { idle with con := { idle.con with line := ⟨List.replicate n 'A', mark⟩ } }

theorem witness_ReceivedBytesBuildTheLine :
    (after (.receivedByte .console 0x7A) (typing 79 .nothing)).con.line.kept = List.replicate 79 'A' ++ ['Z'] ∧
      (after (.receivedByte .console 0x20) (typing 0 .nothing)).con.line = ⟨[' '], .nothing⟩ ∧
      (after (.receivedByte .console 0x7E) (typing 80 .nothing)).con.line = ⟨[], .tooLong⟩ ∧
      (after (.receivedByte .console 0x7F) (typing 1 .nothing)).con.line = ⟨[], .bad⟩ ∧
      (after (.receivedByte .console 0x1F) (typing 1 .nothing)).con.line = ⟨[], .bad⟩ ∧
      (after (.receivedByte .console 0x08) (typing 1 .nothing)).con.line = ⟨[], .nothing⟩ ∧
      (after (.receivedByte .console 0x08) (typing 0 .bad)).con.line = ⟨[], .bad⟩ ∧
      (after (.framingError .target) (running .manual .running)).tgt.line = ⟨[], .bad⟩ ∧
      (running .manual .running).tgt.isOpen = true ∧
      after (.receivedByte .console 0x41) (powerReset .powerOn none none ⟨false, false, false, false⟩) =
        powerReset .powerOn none none ⟨false, false, false, false⟩ := by decide +kernel

theorem witness_CompletedLinesAreOffered :
    (∀ c ∈ (typing 0 .nothing).con.line.kept, c = ' ') ∧ (∃ c ∈ (typing 1 .nothing).con.line.kept, c ≠ ' ') ∧
      (typing 0 .bad).con.line.mark = .bad ∧ (typing 1 .nothing).con.waitMarking = false ∧
      consoleQuiet (typing 1 .nothing) ∧ targetTaken (running .manual .running) ∧
      (∃ i ∈ crowdedTarget.tgt.queue, i.record.form ≠ .notice) ∧
      said (after (.receivedByte .console 0x0D) (typing 0 .nothing)) = none ∧
      said (after (.receivedByte .console 0x0D) (typing 1 .nothing)) = some (.refused, 110) ∧
      said (after (.receivedByte .console 0x0D) (typing 0 .tooLong)) = some (.refused, 101) ∧
      lastNotice (after (.receivedByte .console 0x0D) { crowded with con := { crowded.con with line := ⟨[], .bad⟩ } }) =
        some 105 :=
  ⟨(fun _ h => nomatch h), ⟨'A', by decide⟩, rfl, rfl, ⟨rfl, rfl⟩, running_open _ _,
    ⟨{ record := refusal 102 none }, by decide⟩,
    by decide +kernel⟩

theorem witness_BreakActsByMode :
    idle.con.waitMarking = false ∧ idle.sup.restartPending = false ∧ idle.sup.mode = .manual none ∧
      asking.sup.mode = .auto .question ∧ (probed .sp0 .flash).sup.mode = .manual (some .probe) ∧
      (after .lineBreak (inMode .init idle)).sup.breakFlag = true ∧ (after .lineBreak asking).sup.mode = .manual none ∧
      said (after .lineBreak (probed .sp0 .flash)) = some (.accepted, 0) ∧
      (after .lineBreak (running .manual .running)).sup.mode = .targetRun .running ∧
      (after .lineBreak (inMode (.halted .budget) idle)).sup.mode = .halted .budget ∧
      (powerReset .powerOn none none ⟨false, false, false, false⟩).con.waitMarking = true ∧
      after .lineBreak (powerReset .powerOn none none ⟨false, false, false, false⟩) =
        powerReset .powerOn none none ⟨false, false, false, false⟩ := by decide +kernel

theorem witness_AbortIsABreakWithAReply :
    consoleQuiet asking ∧ classifyWords (ws ["1"]) = .inr [.num 1] ∧ asking.sup.mode = .auto .question ∧
      (after (.abort none []) asking).sup.mode = .manual none ∧
      said (after (.abort none []) (probed .sp0 .flash)) = some (.accepted, 0) ∧
      said (after (.abort none (ws ["1"])) asking) = some (.refused, 111) ∧
      said (after (.abort none []) idle) = some (.refused, 120) ∧
      said (after (.abort none []) (inMode .init idle)) = some (.refused, 120) :=
  ⟨⟨rfl, rfl⟩, by decide +kernel⟩

/-- The part while a POKE's write is in flight. -/
def poking : Part :=
  { slotTaken .poke none (some (.poke none)) idle with
    mmp := { idle.mmp with txn := some ⟨.write 7, 0x100, .poke⟩ } }

theorem witness_AbortedOperationsEnd :
    slotSound asking = true ∧ asking.mmp.txn = none ∧ slotSound (probed .sp0 .flash) = true ∧
      (probed .sp0 .flash).sup.mode = .manual (some .probe) ∧ slotSound poking = true ∧ poking.mmp.txn ≠ none ∧
      said (abortOperation asking) = some (.notice, 411) ∧ (abortOperation poking).sup.abortPending = true := by
  decide +kernel

theorem witness_MarkingAndSpacing :
    (running .manual .running).tgt.isOpen = true ∧ idle.tgt.isOpen = false ∧
      (after .targetLineSpacingHeld (running .manual .running)).tgt.waitMarking = true := by decide +kernel

/-- The part with a number of notices waiting behind a record. -/
def noticed (n : Nat) (p : Part) : Part :=
  { sending p with con := { (sending p).con with notices := List.replicate n (notice 800 none []) } }

theorem witness_NoticesJoinTheQueue :
    (noticed 15 idle).con.tx ≠ none ∧ (raise 204 none [] (noticed 15 idle)).con.notices.length = 16 ∧
      (raise 204 none [] (noticed 16 idle)).con.lost = 1 ∧
      (raise 204 none [] { noticed 16 idle with con := { (noticed 16 idle).con with lost := 0xFF } }).con.lost = 0xFF ∧
      said (raise 204 none [] idle) = some (.notice, 204) := by decide +kernel

theorem witness_ArbiterChoosesTheNextRecord :
    (noticed 16 idle).con.tx = some someReply ∧ someReply.restart = false ∧ someReply.rateSwitch = false ∧
      (noticed 16 idle).con.lines = [] ∧
      (after .consoleRecordSent { noticed 16 idle with con := { (noticed 16 idle).con with lost := 3 } }).con.notices.getLast? =
        some ⟨.notice, 199, none, [.num 3], []⟩ ∧
      (after .consoleRecordSent (noticed 1 idle)).con.tx = some { record := some (notice 800 none []) } ∧
      said (after .consoleRecordSent
        { noticed 1 idle with con := { (noticed 1 idle).con with question := some (questionRecord ⟨1, .sp0, 0⟩) } }) =
        some (.question, 410) ∧
      (after .consoleRecordSent (sending idle)).con.tx = none ∧
      (after .consoleRecordSent
        { sending idle with con := { (sending idle).con with lines := [.bad], replies := [someReply] } }).con.replies =
        [{ record := some (refusal 102 none) }] := by decide +kernel

/-- The part while the "+000" of a RESTART is sent. -/
def restarting : Part :=
  { idle with
    sup := { idle.sup with restartPending := true }
    con := { idle.con with tx := some { record := some (accepted 0 none []), restart := true } } }

theorem witness_RestartAndRateSwitchFollowTheirReply :
    requestTaken idle ∧ classifyWords (ws ["1"]) = .inr [.num 1] ∧
      (after (.restart none []) idle).sup.restartPending = true ∧
      said (after (.restart none (ws ["1"])) idle) = some (.refused, 111) ∧
      restarting.sup.restartPending = true ∧ restarting.con.lines = [] ∧
      (after .consoleRecordSent restarting).sup.cause = .restart ∧
      (after .consoleRecordSent
        { idle with
          con := { idle.con with pendingRate := some 9600, tx := some { record := none, rateSwitch := true } } }).con.rate =
        9600 :=
  ⟨idle_taken, by decide +kernel⟩

/-- The part while the "+000" of a RESTART is sent, with a question pending and all the queues of the console in use. -/
def restartingAsking : Part :=
  { asking with
    sup := { asking.sup with restartPending := true }
    con :=
      { restarting.con with
        line := ⟨['A'], .nothing⟩
        lines := [.bad]
        replies := [{ record := some (accepted 0 none []), restart := true }]
        notices := List.replicate 16 (notice 800 none [])
        lost := 0xFE } }

theorem witness_RestartKeepsTheConsole :
    restartingAsking.con.lines = [.bad] ∧ restartingAsking.con.notices.length = 16 ∧
      restartingAsking.con.replies = [{ record := some (accepted 0 none []), restart := true }] ∧
      (after .consoleRecordSent restartingAsking).con =
        { restartingAsking.con with
          tx := some { record := some (accepted 0 none []) }, replies := [{ record := some (refusal 102 none) }], lines := []
          lost := 0xFF } ∧
      said (after .consoleRecordSent { restartingAsking with con := { restarting.con with lines := [] } }) =
        some (.notice, 411) ∧
      (after .consoleRecordSent
        { noticed 16 idle with
          con :=
            { (noticed 16 idle).con with
              pendingRate := some 9600, tx := some { record := none, rateSwitch := true }, lost := 1 } }).con.notices.length =
        16 := by decide +kernel

/-- The part while the target line sends a record. -/
def targetSending' (a : AfterTarget) (lines : List QueuedLine) (queue : List TargetItem) : Part :=
  { running .automatic .confirmWait with
    tgt :=
      { (running .automatic .confirmWait).tgt with
        tx := some { record := accepted 712 none [], after := a }
        lines := lines
        queue := queue } }

theorem witness_TargetRecordsFollowInOrder :
    (after .targetRecordSent (targetSending' .nothing [] [{ record := refusal 102 none }])).tgt.tx =
        some { record := refusal 102 none } ∧
      (after .targetRecordSent (targetSending' .nothing [] [])).tgt.tx = none ∧
      (after .targetRecordSent (targetSending' .nothing [.tooLong] [{ record := refusal 102 none }])).tgt.queue =
        [{ record := refusal 101 none }] ∧
      (after .targetRecordSent
        { targetSending' .nothing [.tooLong] [{ record := refusal 102 none }] with
          tgt :=
            { (targetSending' .nothing [.tooLong] [{ record := refusal 102 none }]).tgt with accepting := false } }).tgt.lines =
        [.tooLong] ∧
      (after .targetRecordSent (targetSending' .reboot [] [])).sup.cause = .restart := by decide +kernel

theorem witness_LogListsTheAttemptLog :
    requestTaken idle ∧ consoleQuiet (inMode .init idle) ∧ classifyWords (ws ["1"]) = .inr [.num 1] ∧
      said (after (.log none []) idle) = some (.accepted, 0) ∧
      said (after (.log none (ws ["1"])) idle) = some (.refused, 111) ∧
      said (after (.log none []) (inMode .init idle)) = some (.refused, 120) :=
  ⟨idle_taken, ⟨rfl, rfl⟩, by decide +kernel⟩

theorem witness_ListingVerbsChangeNothing :
    requestTaken idle ∧ (∀ reason, idle.sup.mode ≠ .halted reason) ∧
      (after (.mapList none []) idle).con.tx =
        some { record := some (multiLine none
          [[.num 1, .num 0, .num 0x1000000, .word "UNCHECKED", .word "LOAD", .word "CHECK"]]) } ∧
      said (after (.ports none (ws ["1"])) idle) = some (.refused, 111) ∧
      ((after (.ports none []) idle).con.tx.bind ConsoleItem.record).map (fun r => r.lines.take 3) =
        some [[.num 0, .word "FLASH", .word "IDLE", .num 0], [.num 0, .num 0, .word "UNKNOWN", .word "NOT-READY"],
          [.num 1, .word "CARD", .word "IDLE", .num 0, .word "NOCARD"]] :=
  ⟨idle_taken, nofun, by decide +kernel⟩

theorem witness_GetAndStatReport :
    requestTaken idle ∧ findWord settingNames "RETRIES".toList = some .retries ∧
      (after (.get none (ws ["RETRIES"])) idle).con.tx =
        some { record := some (accepted 0 none [.word "RETRIES", .num 2]) } ∧
      settingField defaultSettings (.portKind .sp3) = .word "LINK" ∧
      said (after (.get none (ws ["1"])) idle) = some (.refused, 111) ∧
      said (after (.stat .console none []) idle) = some (.accepted, 0) ∧ targetTaken (running .manual .running) ∧
      (running .manual .running).rlu.released ≠ none ∧
      saidTarget (after (.stat .target none []) (running .manual .running)) = some (.accepted, 0) ∧
      saidTarget (after (.stat .target none (ws ["1"])) (running .manual .running)) = some (.refused, 111) :=
  ⟨idle_taken, by decide +kernel, by decide +kernel, by decide +kernel, by decide +kernel, by decide +kernel,
    running_open _ _, nofun,
    by decide +kernel⟩

theorem witness_OrderDelClosesTheGap :
    requestTaken idle ∧ inManual idle ∧ classifyWords (ws ["4"]) = .inr [.num 4] ∧ idle.sst.settings.order.length = 4 ∧
      said (after (.orderDel none []) idle) = some (.refused, 111) ∧
      said (after (.orderDel none (ws ["0"])) idle) = some (.refused, 112) ∧
      said (after (.orderDel none (ws ["D"])) idle) = some (.refused, 112) ∧
      said (after (.orderDel none (ws ["5"])) idle) = some (.refused, 122) ∧
      said (after (.orderDel none (ws ["C"])) idle) = some (.refused, 122) ∧
      (after (.orderDel none (ws ["4"])) idle).sst.settings.order = defaultOrder.take 3 ∧
      (after (.orderDel none (ws ["1"])) idle).sst.settings.order = defaultOrder.drop 1 :=
  ⟨idle_taken, idle_manual, by decide +kernel⟩

/-- The part with a full boot order list. -/
def fullOrder : Part := setOrder (List.replicate 12 ⟨.sp0, 0, 0, 1, .skip, false⟩) idle

theorem witness_OrderPutAndMove :
    requestTaken idle ∧ inManual idle ∧ findWord policyWords "ASK".toList = some .ask ∧
      findWord answerWords "NO".toList = some false ∧
      (after (.orderPut none (ws ["5", "3", "7", "7", "F", "ASK", "NO"])) idle).sst.settings.order =
        defaultOrder ++ [⟨.sp3, 7, 7, 15, .ask, false⟩] ∧
      (after (.orderPut none (ws ["4", "0", "0", "0", "1", "TAKE", "YES"])) idle).sst.settings.order =
        defaultOrder.take 3 ++ [⟨.sp0, 0, 0, 1, .take, true⟩] ∧
      said (after (.orderPut none (ws ["4", "0", "0", "0", "1", "TAKE", "ON"])) idle) = some (.refused, 111) ∧
      said (after (.orderPut none (ws ["E", "0", "0", "0", "1", "TAKE", "YES"])) idle) = some (.refused, 112) ∧
      said (after (.orderPut none (ws ["1", "4", "0", "0", "1", "TAKE", "YES"])) idle) = some (.refused, 112) ∧
      said (after (.orderPut none (ws ["1", "0", "1", "0", "1", "TAKE", "YES"])) idle) = some (.refused, 112) ∧
      said (after (.orderPut none (ws ["6", "0", "0", "0", "1", "TAKE", "YES"])) idle) = some (.refused, 122) ∧
      said (after (.orderPut none (ws ["D", "0", "0", "0", "1", "TAKE", "YES"])) fullOrder) = some (.refused, 123) ∧
      said (after (.orderMove none (ws ["1"])) idle) = some (.refused, 111) ∧
      said (after (.orderMove none (ws ["1", "D"])) idle) = some (.refused, 112) ∧
      said (after (.orderMove none (ws ["5", "1"])) idle) = some (.refused, 122) ∧
      (after (.orderMove none (ws ["4", "1"])) idle).sst.settings.order = defaultOrder.drop 3 ++ defaultOrder.take 3 :=
  ⟨idle_taken, idle_manual, by decide +kernel⟩

theorem witness_MapEditsOneIndex :
    requestTaken idle ∧ inManual idle ∧ classifyWords (ws ["8", "1000000", "1000", "CHECK"]) =
        .inr [.num 8, .num 0x1000000, .num 0x1000, .word "CHECK".toList] ∧
      (after (.mapPut none (ws ["8", "FFFFF000", "1000", "CHECK"])) idle).sst.settings.map.i8 =
        some ⟨0xFFFFF000, 0x1000, false, true, false⟩ ∧
      (after (.mapPut none (ws ["1", "0", "1000", "LOAD"])) idle).sst.settings.map.i1 =
        some ⟨0, 0x1000, true, false, false⟩ ∧
      said (after (.mapPut none (ws ["2", "1000000", "1000", "LOAD", "LOAD"])) idle) = some (.refused, 111) ∧
      said (after (.mapPut none (ws ["9", "1000000", "1000"])) idle) = some (.refused, 112) ∧
      said (after (.mapPut none (ws ["2", "FFFFF000", "2000"])) idle) = some (.refused, 112) ∧
      said (after (.mapPut none (ws ["2", "1000000", "0"])) idle) = some (.refused, 112) ∧
      said (after (.mapPut none (ws ["2", "1000000", "1000", "LOAD", "PRESERVE"])) idle) = some (.refused, 607) ∧
      said (after (.mapPut none (ws ["2", "FFF000", "1000"])) idle) = some (.refused, 606) ∧
      said (after (.mapPut none (ws ["2", "1000000", "1000"])) (holding .searchRun idle)) = some (.refused, 121) ∧
      said (after (.mapPut none (ws ["2", "1000000"])) idle) = some (.refused, 111) ∧
      (after (.mapDel none (ws ["1"])) idle).sst.settings.map.i1 = none ∧
      said (after (.mapDel none []) idle) = some (.refused, 111) ∧
      said (after (.mapDel none (ws ["0"])) idle) = some (.refused, 112) ∧
      said (after (.mapDel none (ws ["9"])) idle) = some (.refused, 112) ∧
      said (after (.mapDel none (ws ["8"])) idle) = some (.refused, 122) ∧
      said (after (.mapDel none (ws ["1"])) (holding .searchRun idle)) = some (.refused, 121) :=
  ⟨idle_taken, idle_manual, by decide +kernel⟩

theorem witness_SetReplacesOneSetting :
    requestTaken idle ∧ inManual idle ∧ findWord settingNames "SHORTWAIT".toList = some .shortwait ∧
      (after (.set none (ws ["SHORTWAIT", "3C"])) idle).sst.settings.shortwait = 60 ∧
      said (after (.set none (ws ["SHORTWAIT", "3D"])) idle) = some (.refused, 112) ∧
      said (after (.set none (ws ["AUTOSTART", "1"])) idle) = some (.refused, 111) ∧
      said (after (.set none (ws ["NOSUCH", "1"])) idle) = some (.refused, 111) ∧
      (after (.set none (ws ["CONRATE", "9600."])) idle).con.pendingRate = some 9600 ∧
      (after (.set none (ws ["CONRATE", "38400."])) idle).con.pendingRate = none ∧
      (after (.set none (ws ["AUTOSTART", "OFF"])) idle).sst.settings.autostart = false ∧
      said (after (.set none (ws ["AUTOSTART", "LATER"])) idle) = some (.refused, 111) ∧
      ((after (.set none (ws ["PORT3KIND", "NONE"])) idle).spc.ports.map fun t => t.p3.state) = some .off ∧
      said (after (.set none (ws ["PORT3KIND", "NONE"])) (holding .searchRun idle)) = some (.refused, 121) :=
  ⟨idle_taken, idle_manual, by decide +kernel⟩

/-- The settings memory with a copy in each area. -/
def stored (a b : Nat) : Part :=
  { idle with sst :=
    { idle.sst with
      areaA := some (storedCopy a defaultSettings)
      areaB := some (storedCopy b defaultSettings)
      recordA := some a
      recordB := some b } }

/-- A SAVE in flight for area B. -/
def savingB : Part :=
  { idle with sst :=
    { idle.sst with
      areaA := some (storedCopy 1 defaultSettings)
      recordA := some 1
      saving := some ⟨.b, 2, { defaultSettings with budget := 8 }, none⟩ } }

theorem witness_SaveWritesTheOtherArea :
    requestTaken idle ∧ inManual idle ∧ (after (.save none []) idle).sst.saving = some ⟨.a, 1, defaultSettings, none⟩ ∧
      (after (.save none []) (stored 2 1)).sst.saving = some ⟨.b, 3, defaultSettings, none⟩ ∧
      (after (.save none []) (stored 1 0xFFFFFFFE)).sst.saving = some ⟨.a, 0xFFFFFFFF, defaultSettings, none⟩ ∧
      said (after (.save none []) (stored 1 0xFFFFFFFF)) = some (.refused, 905) ∧
      said (after (.save none (ws ["1"])) idle) = some (.refused, 111) ∧
      said (after (.save none []) savingB) = some (.refused, 902) ∧
      (after (.saveWriteEnd .readBackEqual) savingB).sst.recordB = some 2 ∧
      said (after (.saveWriteEnd .readBackDiffers) savingB) = some (.notice, 901) ∧
      said (after .saveTimerExpiry savingB) = some (.notice, 901) :=
  ⟨idle_taken, idle_manual, by decide +kernel⟩

/-- The stored copies of `savingB` are sound. -/
theorem savingB_copies : copiesSound savingB := by
  have h : validGeneration savingB.sst.areaA = some 1 ∧ savingB.sst.recordA = some 1 := by decide +kernel
  refine ⟨fun g _ hb => by simp [validGeneration, validCopy, savingB, idle, powerReset] at hb, fun _ => ?_, fun v hv => ?_⟩
  · exact ⟨h.2.trans h.1.symm, by decide +kernel⟩
  · obtain rfl : ⟨.b, 2, { defaultSettings with budget := 8 }, none⟩ = v := Option.some.inj hv
    refine ⟨rfl, fun g hg => ?_⟩
    have : some 1 = some g := h.1.symm.trans hg
    simp at this
    simp [← this]

theorem witness_SavedSettingsComeBack :
    copiesSound savingB ∧ savingB.sst.saving = some ⟨.b, 2, { defaultSettings with budget := 8 }, none⟩ ∧
      (after .settingsSettled (after .powerOn (after (.saveWriteEnd .readBackEqual) savingB))).sst.settings.budget = 8 ∧
      (after .settingsSettled (after .powerOn savingB)).sst.source = .a :=
  ⟨savingB_copies, rfl, by decide +kernel⟩

theorem witness_DefaultsReplacesTheSettings :
    requestTaken idle ∧ inManual idle ∧ said (after (.defaults none (ws ["1"])) idle) = some (.refused, 111) ∧
      said (after (.defaults none []) savingB) = some (.refused, 902) ∧
      said (after (.defaults none [])
        (holding .searchRun
          { idle with sst := { idle.sst with settings := { defaultSettings with map := Eight.const none } } })) =
        some (.refused, 121) ∧
      said (after (.defaults none []) (holding .searchRun idle)) = some (.accepted, 903) ∧
      (after (.defaults none []) { idle with con := { idle.con with rate := 9600 } }).con.pendingRate = some 38400 ∧
      (after (.defaults none []) { idle with sst := { idle.sst with settings := { defaultSettings with budget := 8 } } }).sst =
        idle.sst :=
  ⟨idle_taken, idle_manual, by decide +kernel⟩

/-- The entry of a port with its FAULT. -/
def faulted (port : Port) (kind : PortKind) : Part :=
  setEntry port { freshEntry kind true with state := .fault, count := 3 } idle

theorem witness_ProbeAndVolumeBeginAnExchange :
    requestTaken idle ∧ inManual idle ∧ Port.ofNat? 2 = some .sp2 ∧ (entryOf idle .sp2).isSome = true ∧
      (after (.probe none (ws ["2", "7"])) idle).sup.verbRun = some (.probe none .sp2 7) ∧
      (after (.volume none (ws ["0", "0"])) idle).sup.verbRun = some (.volume none .sp0 0 none) ∧
      said (after (.probe none (ws ["2"])) idle) = some (.refused, 111) ∧
      said (after (.volume none (ws ["4", "0"])) idle) = some (.refused, 112) ∧
      said (after (.probe none (ws ["3", "8"])) idle) = some (.refused, 112) ∧
      said (after (.probe none (ws ["3", "0"])) (holding .searchRun idle)) = some (.refused, 121) ∧
      said (after (.probe none (ws ["2", "0"])) (faulted .sp2 .block)) = some (.notice, 204) ∧
      (after (.volume none (ws ["2", "0"])) (faulted .sp2 .block)).con.tx =
        some { record := some (multiLine none [[.num 2, .num 0, .word "NOT-READY"]]) } ∧
      (after (.probe none (ws ["3", "4"])) idle).con.tx =
        some { record := some (accepted 0 none [.num 3, .num 4, .word "ABSENT"]) } ∧
      (after (.volume none (ws ["1", "0"])) idle).con.tx =
        some { record := some (multiLine none [[.num 1, .num 0, .word "NOT-PRESENT"]]) } :=
  ⟨idle_taken, idle_manual, by decide +kernel⟩

/-- The fields of the reply that the console is sending. -/
def repliedFields (p : Part) : List Field := ((p.con.tx.bind ConsoleItem.record).map Record.fields).getD []

theorem witness_DeviceAnswersEndAProbe :
    (entryOf (probed .sp0 .flash) .sp0).bind PortEntry.op =
        some ⟨.probe, 0, .probeVerb, some 20, [], []⟩ ∧
      (probed .sp0 .flash).sup.verbRun = some (.probe none .sp0 0) ∧ (probed .sp0 .flash).con.replies = [] ∧
      repliedFields (after (.flashExchangeEnd .sp0 (.identify 0 0 0)) (probed .sp0 .flash)) =
        [.num 0, .num 0, .word "ABSENT"] ∧
      repliedFields (after (.flashExchangeEnd .sp0 (.identify 1 2 0x10)) (probed .sp0 .flash)) =
        [.num 0, .num 0, .word "READY", .num 0x80] ∧
      repliedFields (after (.flashExchangeEnd .sp0 (.identify 1 2 0x1F)) (probed .sp0 .flash)) =
        [.num 0, .num 0, .word "READY", .num 0x400000] ∧
      repliedFields (after (.flashExchangeEnd .sp0 (.identify 1 2 0x20)) (probed .sp0 .flash)) =
        [.num 0, .num 0, .word "NOT-READY"] ∧
      repliedFields (after (.cardExchangeEnd .sp1 (.initialized 0xFFFFFFFF)) (probed .sp1 .card)) =
        [.num 1, .num 0, .word "READY", .num 0xFFFFFFFF] ∧
      repliedFields (after (.cardExchangeEnd .sp1 (.initialized 0)) (probed .sp1 .card)) =
        [.num 1, .num 0, .word "NOT-READY"] ∧
      repliedFields (after (.blockExchangeEnd .sp2 (.readyCapacity 1)) (probed .sp2 .block)) =
        [.num 2, .num 0, .word "READY", .num 1] ∧
      repliedFields (after (.blockExchangeEnd .sp2 .noUnit) (probed .sp2 .block)) = [.num 2, .num 0, .word "ABSENT"] ∧
      repliedFields (after (.blockExchangeEnd .sp2 .otherStatus) (probed .sp2 .block)) =
        [.num 2, .num 0, .word "NOT-READY"] := by decide +kernel

/-- An answer frame. -/
def answerFrame (type slot : Nat) (payload : List Byte) : List Byte :=
  let body := leBytes 1 type ++ leBytes 1 slot ++ leBytes 4 0 ++ leBytes 2 payload.length ++ payload
  0x7E#8 :: body ++ leBytes 2 (crc16 body).toNat

/-- The part while a LINK request goes out. -/
def linkSending : Part :=
  setEntry .sp3
    { freshEntry .link false with state := .busy, op := some ⟨.probe, 0, .probeVerb, none, linkRequest 1 0 0, []⟩ }
    (probed .sp3 .link)

theorem witness_LinkAnswersEndAProbe :
    (entryOf linkSending .sp3).bind PortEntry.op = some ⟨.probe, 0, .probeVerb, none, linkRequest 1 0 0, []⟩ ∧
      linkSending.con.replies = [] ∧ linkSending.sup.verbRun = some (.probe none .sp3 0) ∧
      assemble [0x7E] = .incomplete ∧ assemble ([0x7E, 0x81, 0, 0, 0, 0, 0, 5, 0]) = .malformed ∧
      ((entryOf (after (.linkRequestSent .sp3) linkSending) .sp3).bind PortEntry.op).bind InFlight.timer = some 3000 ∧
      repliedFields (after (.linkAnswerFrame .sp3 (answerFrame 0x81 0 (leBytes 4 1))) linkSending) =
        [.num 3, .num 0, .word "READY", .num 1] ∧
      repliedFields (after (.linkAnswerFrame .sp3 (answerFrame 0x84 0 [])) linkSending) = [.num 3, .num 0, .word "ABSENT"] ∧
      repliedFields (after (.linkAnswerFrame .sp3 (answerFrame 0x81 1 (leBytes 4 1))) linkSending) =
        [.num 3, .num 0, .word "NOT-READY"] ∧
      repliedFields (after (.linkAnswerFrame .sp3 (answerFrame 0x81 0 (leBytes 4 0))) linkSending) =
        [.num 3, .num 0, .word "NOT-READY"] ∧
      repliedFields (after (.linkAnswerFrame .sp3 [0x7E, 0x81, 0, 0, 0, 0, 0, 5, 0]) linkSending) =
        [.num 3, .num 0, .word "NOT-READY"] := by decide +kernel

theorem witness_AnswerFramesReadBack :
    (∀ b ∈ [0x00#8, 0x7F#8], b ≠ 0x7E) ∧ [0x84].all (· < 0x100) = true ∧
      assemble ([0x00, 0x7F] ++ answerFrame 0xFF 0xFF []) = .frame ⟨0xFF, 0xFF, 0, [], true⟩ ∧
      assemble (answerFrame 0x81 0 (leBytes 4 0x12345678)) = .frame ⟨0x81, 0, 0, [0x78, 0x56, 0x34, 0x12], true⟩ ∧
      assemble ((answerFrame 0x81 0 (leBytes 4 0x12345678)).take 14) = .incomplete := by decide +kernel

/-- The part while a port reads a block for a VOLUME. -/
def readingVolume (port : Port) (kind : PortKind) (made : Nat) (count : Nat) : Part :=
  let f : InFlight := ⟨.read 0 2 made, 0, .volumeVerb, some kind.timeoutMs, [], []⟩
  setEntry port { freshEntry kind true with state := .busy, count := count, op := some f }
    (exchanging port kind .probe .volumeVerb (some (.volume none port 0 (some 100))))

theorem witness_FailedExchangesRetryOrFault :
    ((entryOf (readingVolume .sp0 .flash 1 2) .sp0).bind PortEntry.op).map InFlight.op = some (.read 0 2 1) ∧
      ((entryOf (after (.flashExchangeEnd .sp0 (.block (List.replicate 512 0) true)) (readingVolume .sp0 .flash 1 2)) .sp0).map
        fun e => (e.count, e.op.map InFlight.op)) = some (0, some (.read 0 2 2)) ∧
      ((entryOf (after (.exchangeTimeout .sp2) (readingVolume .sp2 .block 0 1)) .sp2).map
        fun e => (e.count, e.op.map InFlight.op)) = some (2, some (.read 0 2 1)) ∧
      repliedFields (after (.exchangeTimeout .sp1) (probed .sp1 .card)) = [.num 1, .num 0, .word "TIMEOUT"] ∧
      said (after (.exchangeTimeout .sp0)
        (setEntry .sp0
          { freshEntry .flash false with
            state := .busy
            count := 2
            op := some ⟨.probe, 0, .probeVerb, some 20, [], []⟩ } (probed .sp0 .flash))) = some (.notice, 203) ∧
      after (.exchangeTimeout .sp3) linkSending = linkSending := by decide +kernel

/-- A CARD port whose sense input is held. -/
def sensing (card : Bool) (p : Part) : Part := after (.cardSenseChange .sp1 card) p

theorem witness_CardEvents :
    ((entryOf (sensing true idle) .sp1).map PortEntry.hold) = some (some true) ∧
      ((entryOf (sensing false (sensing true idle)) .sp1).map PortEntry.hold) = some none ∧
      said (after (.cardInserted .sp1) (sensing true idle)) = some (.notice, 201) ∧
      waiting.sre.run.map SearchRun.stage = some .waiting ∧
      (after (.cardInserted .sp1) (sensing true waiting)).sre.lastRound = 2 ∧
      said (after (.cardRemoved .sp1) (sensing false (setEntry .sp1 (freshEntry .card true) idle))) = some (.notice, 202) ∧
      said (after (.cardRemoved .sp1) (sensing false (probed .sp1 .card))) = some (.notice, 202) ∧
      (after (.cardSenseChange .sp0 true) idle).spc.sense.p0 = true := by decide +kernel

theorem witness_PeekAndPokeRequestTransactions :
    requestTaken idle ∧ inManual idle ∧ mapped idle.sst.settings.map 0xFFFFFC ∧ ¬ mapped idle.sst.settings.map 0x1000000 ∧
      (after (.peek none (ws ["FFFFC0", "10"])) idle).mmp.txn = some ⟨.read, 0xFFFFC0, .peek⟩ ∧
      (after (.peek none (ws ["FFFFFC"])) idle).mmp.txn = some ⟨.read, 0xFFFFFC, .peek⟩ ∧
      said (after (.peek none []) idle) = some (.refused, 111) ∧
      said (after (.peek none (ws ["0", "0"])) idle) = some (.refused, 112) ∧
      said (after (.peek none (ws ["0", "11"])) idle) = some (.refused, 112) ∧
      said (after (.peek none (ws ["2", "1"])) idle) = some (.refused, 112) ∧
      said (after (.peek none (ws ["FFFFFC", "2"])) idle) = some (.refused, 601) ∧
      said (after (.peek none (ws ["0"])) (holding .searchRun idle)) = some (.refused, 121) ∧
      said (after (.peek none (ws ["0"])) { idle with rlu := { idle.rlu with treset := .freed } }) = some (.refused, 605) ∧
      (after (.poke none (ws ["FFFFFC", "FFFFFFFF"])) idle).mmp.txn = some ⟨.write 0xFFFFFFFF, 0xFFFFFC, .poke⟩ ∧
      said (after (.poke none (ws ["0"])) idle) = some (.refused, 111) ∧
      said (after (.poke none (ws ["3", "0"])) idle) = some (.refused, 112) ∧
      said (after (.poke none (ws ["1000000", "0"])) idle) = some (.refused, 601) ∧
      said (after (.poke none (ws ["0", "0"])) { idle with rlu := { idle.rlu with treset := .freed } }) = some (.refused, 605) ∧
      said (after (.poke none (ws ["1000", "0"]))
        { idle with sst := { idle.sst with settings := { defaultSettings with map :=
          { Eight.const none with i1 := some ⟨0, 0x2000, false, false, true⟩ } } } }) = some (.refused, 604) ∧
      said (after (.poke none (ws ["0", "0"])) (holding .searchRun idle)) = some (.refused, 121) :=
  ⟨idle_taken, idle_manual, ⟨.r1, _, rfl, by decide⟩,
    by rintro ⟨i, r, h, ha⟩
       cases i <;> simp [idle, powerReset, defaultSettings, defaultMap, Eight.get, Eight.const] at h
       subst h
       simp [Region.holds] at ha,
    by decide +kernel⟩

/-- The part while a PEEK reads its word at an address, with some left. -/
def peeking (a left : Nat) : Part :=
  { slotTaken .peek none (some (.peek none a left [])) idle with mmp := { idle.mmp with txn := some ⟨.read, a, .peek⟩ } }

theorem witness_PeekAndPokeEndWithTheirOutcomes :
    poking.con.replies = [] ∧ poking.mmp.txn = some ⟨.write 7, 0x100, .poke⟩ ∧ poking.sup.verbRun = some (.poke none) ∧
      said (after (.memoryResponse true false 0) poking) = some (.accepted, 0) ∧
      said (after (.memoryResponse false true 0) poking) = some (.refused, 603) ∧
      said (after .responseTimeout poking) = some (.refused, 602) ∧
      (peeking 0xFFFFF8 2).sup.verbRun = some (.peek none 0xFFFFF8 2 []) ∧ (peeking 0xFFFFF8 2).sup.abortPending = false ∧
      judgeTxn .read 0xFFFFFC (peeking 0xFFFFF8 2) = none ∧
      (after (.memoryResponse true false 9) (peeking 0xFFFFF8 2)).mmp.txn = some ⟨.read, 0xFFFFFC, .peek⟩ ∧
      said (after (.memoryResponse true true 9) (peeking 0 1)) = some (.accepted, 0) ∧
      said (after .responseTimeout (peeking 0 1)) = some (.accepted, 0) := by decide +kernel

theorem witness_CheckBeginsWithItsFirstWord :
    requestTaken idle ∧ inManual idle ∧ checkForm [.word "QUICK".toList] .quick .all 1 false ∧
      checkForm [.word "WALK".toList, .num 1, .num 0xFF, .word "STOP".toList] .walk (.index 1) 0xFF true ∧
      occupied idle.sst.settings.map = [.r1] ∧ mapSound idle.sst.settings.map = true ∧ idle.rlu.treset = .asserted ∧
      (after (.check none (ws ["QUICK"])) idle).mmp.txn = some ⟨.write 0, 0, .checker⟩ ∧
      (after (.check none (ws ["READ", "1", "0"])) idle).mmp.txn = some ⟨.read, 0, .checker⟩ ∧
      said (after (.check none (ws ["WALK", "1", "FF", "STOP"])) idle) = some (.accepted, 0) ∧
      said (after (.check none []) idle) = some (.refused, 111) ∧
      said (after (.check none (ws ["QUICK", "0"])) idle) = some (.refused, 112) ∧
      said (after (.check none (ws ["QUICK", "9"])) idle) = some (.refused, 112) ∧
      said (after (.check none (ws ["QUICK", "ALL", "100"])) idle) = some (.refused, 112) ∧
      said (after (.check none (ws ["QUICK", "8"])) idle) = some (.refused, 122) ∧
      said (after (.check none (ws ["QUICK"])) (holding .searchRun idle)) = some (.refused, 121) :=
  ⟨idle_taken, idle_manual, ⟨_, by decide +kernel, .inl ⟨rfl, rfl, rfl, rfl⟩⟩,
    ⟨"WALK".toList, by decide +kernel, .inr ⟨.num 1, .inr ⟨1, rfl, rfl⟩, .inr (.inr ⟨rfl, rfl⟩)⟩⟩, by decide +kernel⟩

/-- The part while a CHECK under STOP waits for a word. -/
def checking (kind : CheckKind) (phase : Nat) (firstRead : Option Word32) (txn : TxnKind) (defects : Nat) : Part :=
  { inMode (.manual (some .check)) (holding (.verb .check none) idle) with
    mck :=
      { run := some
          { origin := .verb, tag := none, asked := kind, regions := [.r1], passes := 1, stop := true, pass := 1,
            current := .r1, effective := kind, phase := phase, cursor := 0x400, written := true, marks := [],
            firstRead := firstRead }
        defects := List.replicate defects ⟨0, .noResponse, none, none, 1⟩
        dropped := if defects = 16 then 0xFFFF else 0 }
    mmp := { idle.mmp with txn := some ⟨txn, 0x400, .checker⟩ } }

theorem witness_StopEndsACheckAtItsDefect :
    (checking .quick 1 none (.write 0x400) 0).sup.abortPending = false ∧
      (after .responseTimeout (checking .quick 1 none (.write 0x400) 15)).mck.defects.length = 16 ∧
      (after (.memoryResponse false true 0) (checking .quick 3 none (.write 0x400) 16)).mck.dropped = 0xFFFF ∧
      (after (.memoryResponse true false 0x410) (checking .quick 2 none .read 0)).mck.defects =
        [⟨0x400, .mismatch, some 0x400, some 0x410, 1⟩] ∧
      (after (.memoryResponse true false 0) (checking .walk 4 none .read 0)).mck.defects =
        [⟨0x400, .mismatch, some 0xFFFFFBFF, some 0, 1⟩] ∧
      (after (.memoryResponse true false 5) (checking .read 0 (some 4) .read 0)).mck.defects =
        [⟨0x400, .unstable, none, some 5, 1⟩] ∧
      said (after .responseTimeout (checking .quick 1 none (.write 0x400) 0)) = some (.notice, 502) := by decide +kernel

/-- A block 0 of a bootable volume with one FILL segment of the shortest length, laid out by hand from R22 and R23. -/
def bootBlock : List Byte :=
  let head := [0x45, 0x4B, 0x4C, 0x31, 1, 1, 1, 0] ++ leBytes 4 0xA5 ++ leBytes 4 0x1000 ++ leBytes 4 0 ++
    List.replicate 12 0x41#8 ++ leBytes 4 0x1000 ++ leBytes 4 4 ++ leBytes 4 0xFFFFFFFF ++ leBytes 4 0 ++
    List.replicate 460 0#8
  head ++ wordBytes (crc32 head)

theorem witness_BootableImagesFitTheMap :
    bootBlock.length = 512 ∧ (0xFFFFF000 : Nat) % 0x1000 = 0 ∧
      (classify ⟨bootBlock, 1, .sp0, 0, .flash, false⟩ ⟨defaultMap, Eight.const .good⟩ 0 64).volume = .bootable ∧
      (classify ⟨List.replicate 512 0x11, 1, .sp0, 0, .flash, true⟩ ⟨defaultMap, Eight.const .good⟩ 0 1).volume = .bootable := by
  decide +kernel

/-- The part while a STAGE writes a FILL segment. -/
def filling (segment address : Nat) : Part :=
  { slotTaken .stage none (some (.start false none .sp0 0 false .loading)) idle with
    ldr :=
      { image := .partly
        plan := some (fillPlan .stage (some ⟨.write, segment, 0, address, 0xFFFFFFFF, [], []⟩))
        handoff := none }
    mmp := { idle.mmp with txn := some ⟨.write 0, address, .loader⟩ } }

theorem witness_FillSegmentsAreWrittenWordByWord :
    segmentAt 1 fillImage = some ⟨1, 0x1000, 8, none, none, .r1⟩ ∧
      segmentAt 2 fillImage = some ⟨2, 0x2000, 4, none, none, .r1⟩ ∧ (filling 1 0x1000).sup.abortPending = false ∧
      judgeTxn (.write 0) 0x1004 (filling 1 0x1000) = none ∧ judgeTxn (.write 0) 0x2000 (filling 1 0x1004) = none ∧
      regionAt (filling 1 0x1000).sst.settings.map 0x1000 = some .r1 ∧
      (after (.memoryResponse true false 0) (filling 1 0x1000)).mmp.txn = some ⟨.write 0, 0x1004, .loader⟩ ∧
      (after (.memoryResponse true false 0) (filling 1 0x1004)).mmp.txn = some ⟨.write 0, 0x2000, .loader⟩ ∧
      (after .responseTimeout (filling 1 0x1000)).mmp.health.i1 = .defective ∧
      (after (.memoryResponse true true 0) (filling 2 0x2000)).sup.mode = .manual none := by decide +kernel

/-- A load plan whose image carries a label. -/
def labelled : LoadPlan :=
  { fillPlan .search none with
    image := { fillImage with handoff := some 0x8000, label := some (List.replicate 12 0x41) }
    fields := ⟨1, 1, .sp3, 7⟩ }

theorem witness_HandoffRecordsReadBack :
    labelled.image.label = some (List.replicate 12 0x41) ∧ labelled.fields.unit ≤ 7 ∧
      (handoffRecord labelled { idle with sre := { idle.sre with nextSeq := 0xFFFF, releaseCount := 0xFF } }).length = 64 ∧
      field (handoffRecord labelled { idle with sre := { idle.sre with releaseCount := 0xFE } }) 14 1 = 0xFF := by
  decide +kernel

theorem witness_StageAndBootBeginWithAProbe :
    requestTaken idle ∧ inManual idle ∧ (entryOf idle .sp0).map PortEntry.state = some .idle ∧
      (after (.stage none (ws ["2", "7", "RAW"])) idle).sup.verbRun = some (.start false none .sp2 7 true .probing) ∧
      (after (.boot none (ws ["0", "0"])) idle).sup.verbRun = some (.start true none .sp0 0 false .probing) ∧
      said (after (.boot none (ws ["0", "0", "COOKED"])) idle) = some (.refused, 111) ∧
      said (after (.stage none (ws ["4", "0"])) idle) = some (.refused, 112) ∧
      said (after (.stage none (ws ["0", "8"])) idle) = some (.refused, 112) ∧
      said (after (.boot none (ws ["0", "0"])) (holding .searchRun idle)) = some (.refused, 121) ∧
      (after (.boot none (ws ["3", "4"])) idle).sre.log = [⟨1, ⟨0, 0, .sp3, 4⟩, .notPresent, none, none⟩] :=
  ⟨idle_taken, idle_manual, by decide +kernel⟩

/-- The part with an image STAGED. -/
def staged (confirm : Nat) : Part :=
  { idle with ldr :=
    { image := .staged
      plan := some { fillPlan .stage none with image := { fillImage with confirm := confirm } }
      handoff := none } }

theorem witness_GoReleasesTheStagedImage :
    consoleQuiet (inMode .init idle) ∧ said (after (.go none []) (inMode .init idle)) = some (.refused, 120) ∧
      said (after (.go none []) { idle with sup := { idle.sup with restartPending := true } }) = some (.refused, 120) ∧
      requestTaken (staged 0) ∧ inManual (staged 0) ∧ (staged 0).ldr.image = .staged ∧ (staged 0).sup.slot = none ∧
      (after (.go none []) (staged 0)).rlu.windowTimer = some 20 ∧
      (after (.go none []) (staged 1)).rlu.windowTimer = some 1 ∧
      (after (.go none []) (staged 0xFE)).rlu.windowTimer = some 0xFE ∧
      (after (.go none []) (staged 0xFF)).sup.mode = .targetRun .running ∧
      said (after (.go none (ws ["1"])) (staged 0)) = some (.refused, 111) ∧
      said (after (.go none []) idle) = some (.refused, 120) ∧
      said (after (.go none []) (holding .searchRun (staged 0))) = some (.refused, 121) ∧
      said (after (.go none []) { staged 0 with sre := { idle.sre with spent := [⟨.sp0, 0, 0xA5⟩] } }) = some (.refused, 305) :=
  ⟨⟨rfl, rfl⟩, by decide +kernel, by decide +kernel, ⟨⟨rfl, rfl⟩, nofun, rfl⟩, ⟨none, rfl⟩, by decide +kernel⟩

theorem witness_HoldEndsTheRelease :
    requestTaken (running .manual .confirmWait) ∧ (running .manual .confirmWait).sup.mode = .targetRun .confirmWait ∧
      (running .manual .confirmWait).rlu.released = some (candidate .manual .confirmWait) ∧
      (running .manual .confirmWait).ldr.image = .released ∧
      (after (.hold none []) (running .manual .confirmWait)).sre.log.length = 1 ∧
      (after (.hold none []) (running .manual .running)).sre.log = [] ∧
      said (after (.hold none []) (running .manual .running)) = some (.accepted, 730) ∧
      said (after (.hold none (ws ["1"])) (running .manual .running)) = some (.refused, 111) :=
  ⟨running_taken _ _, by decide +kernel⟩

theorem witness_AliveConfirmsTheCandidate :
    targetTaken (running .manual .confirmWait) ∧
      (running .manual .confirmWait).rlu.released = some (candidate .manual .confirmWait) ∧
      (after (.alive none (ws ["A5"])) (running .manual .confirmWait)).sup.mode = .targetRun .running ∧
      saidTarget (after (.alive none (ws ["A6"])) (running .manual .confirmWait)) = some (.refused, 721) ∧
      saidTarget (after (.alive none []) (running .manual .confirmWait)) = some (.refused, 111) ∧
      saidTarget (after (.alive none (ws ["A5"])) (running .manual .running)) = some (.refused, 120) :=
  ⟨running_open _ _, by decide +kernel⟩

theorem witness_RevertRebootAndHand :
    targetTaken (running .manual .confirmWait) ∧
      (running .manual .confirmWait).ldr.handoff = some ⟨0x8000, List.replicate 64 0⟩ ∧
      saidTarget (after (.revert none []) (running .manual .confirmWait)) = some (.accepted, 712) ∧
      saidTarget (after (.revert none (ws ["1"])) (running .manual .confirmWait)) = some (.refused, 111) ∧
      saidTarget (after (.revert none []) (running .manual .running)) = some (.refused, 120) ∧
      saidTarget (after (.reboot none []) (running .manual .running)) = some (.accepted, 803) ∧
      saidTarget (after (.reboot none (ws ["1"])) (running .manual .running)) = some (.refused, 111) ∧
      saidTarget (after (.hand none []) (running .manual .running)) = some (.accepted, 0) ∧
      saidTarget (after (.hand none (ws ["1"])) (running .manual .running)) = some (.refused, 111) ∧
      saidTarget (after (.hand none []) { running .manual .running with
        ldr := { (running .manual .running).ldr with handoff := none } }) = some (.refused, 122) :=
  ⟨running_open _ _, by decide +kernel⟩

theorem witness_FailedWindowsFallBack :
    (running .manual .confirmWait).rlu.windowTimer ≠ none ∧
      (targetSending' .revert [] []).tgt.tx.map TargetItem.after = some .revert ∧
      (targetSending' .revert [] []).rlu.released = some (candidate .automatic .confirmWait) ∧
      (after .windowExpiry (running .manual .confirmWait)).sup.mode = .manual none ∧
      (after .windowExpiry (running .manual .confirmWait)).sre.spent = [⟨.sp0, 0, 0xA5⟩] ∧
      (after .targetRecordSent (targetSending' .revert [] [])).sre.lastRound = 1 ∧
      (after .windowExpiry { running .automatic .confirmWait with sre := { idle.sre with lastRound := 0xFFFF } }).sre.lastRound =
        0xFFFF := by decide +kernel

theorem witness_RoundsBegin :
    requestTaken idle ∧ inManual idle ∧ (after (.seek none []) idle).sre.lastRound = 1 ∧
      (after (.seek none (ws ["CLEAR"])) { idle with sre := { idle.sre with releaseCount := 3 } }).sre.releaseCount = 0 ∧
      said (after (.seek none (ws ["1"])) idle) = some (.refused, 111) ∧
      said (after (.seek none []) (holding .searchRun idle)) = some (.refused, 121) ∧
      said (after (.seek none []) (sending idle)) = some (.accepted, 0) ∧ waiting.sre.waitTimer ≠ none ∧
      waiting.sre.run.isSome = true ∧ (after .roundWaitExpiry waiting).sre.lastRound = 2 :=
  ⟨idle_taken, idle_manual, by decide +kernel⟩

/-- A part in the wait between rounds with no port in use. -/
def barren (maxrounds : Nat) : Part :=
  { waiting with
    spc := { idle.spc with ports := some (freshPorts ⟨.unused, .unused, .unused, .unused⟩ idle.spc.sense) }
    sst := { idle.sst with settings := { defaultSettings with maxrounds := maxrounds } } }

theorem witness_ARoundVisitsEveryUnitInOrder :
    (barren 0).sre.waitTimer ≠ none ∧ (∀ e ∈ (barren 0).sst.settings.order, 1 ≤ e.tries) ∧
      ((after .roundWaitExpiry (barren 0)).sre.log.map fun r => (r.fields.entry, r.fields.unit)) =
        [(1, 0), (2, 0), (3, 0), (3, 1), (3, 2), (3, 3), (3, 4), (3, 5), (3, 6), (3, 7), (4, 0), (4, 1), (4, 2), (4, 3)] ∧
      (after .roundWaitExpiry (barren 3)).sup.mode = .auto .wait ∧
      (after .roundWaitExpiry (barren 2)).sup.mode = .manual none := by decide +kernel

theorem witness_QuestionsEndByAnswerOrTimer :
    requestTaken asking ∧ asking.sup.mode = .auto .question ∧ asking.sre.question.map Question.id = some 1 ∧
      (currentEntry asking).isSome = true ∧ (asking.sre.run.bind SearchRun.held).isSome = true ∧
      asking.sre.questionTimer ≠ none ∧
      ((after (.answer none (ws ["1", "NO"])) asking).sre.log.map AttemptRecord.outcome).head? = some .unknownDeclined ∧
      ((after (.answer none (ws ["1", "YES"])) asking).ldr.image) = .partly ∧
      said (after (.answer none (ws ["1"])) asking) = some (.refused, 111) ∧
      said (after (.answer none (ws ["0", "YES"])) asking) = some (.refused, 112) ∧
      said (after (.answer none (ws ["100", "YES"])) asking) = some (.refused, 112) ∧
      said (after (.answer none (ws ["FF", "YES"])) asking) = some (.refused, 413) ∧
      ((after .questionTimerExpiry asking).sre.log.map AttemptRecord.outcome).head? = some .unknownTimeout :=
  ⟨⟨⟨rfl, rfl⟩, nofun, rfl⟩, by decide +kernel⟩

theorem witness_SettingsSettleToTheNewestCopy :
    State.reset.sup.mode = .init ∧ State.reset.sup.settled = false ∧ State.reset.sup.initTimer = true ∧
      (after .settingsSettled (after .pinReset (stored 1 2))).sst.source = .b ∧
      (after .settingsSettled (after .pinReset (stored 2 1))).sst.source = .a ∧
      (after .settingsSettled (after .pinReset idle)).sst.source = .defaults := by decide +kernel

/-- The part in INIT with its settings settled. -/
def starting (s : Settings) : Part :=
  { inMode .init idle with
    sup := { (inMode .init idle).sup with initTimer := true }
    sst := { idle.sst with settings := s } }

theorem witness_InitEndsInTheChosenMode :
    (starting defaultSettings).sup.mode = .init ∧ (starting defaultSettings).sup.initTimer = true ∧
      defaultSettings.autocheck ≠ .nothing ∧ (defaultSettings.map.get .r1).map Region.check = some true ∧
      (after .initTimerExpiry (starting defaultSettings)).sup.mode = .auto .check ∧
      (after .initTimerExpiry (starting { defaultSettings with autostart := false })).sup.mode = .manual none ∧
      (after .initTimerExpiry (starting { defaultSettings with autocheck := .nothing })).sre.lastRound = 1 ∧
      (after .initTimerExpiry (starting { defaultSettings with map := Eight.const none })).sre.lastRound = 1 ∧
      (after .initTimerExpiry State.reset.toPart).sup.initTimer = false ∧
      after .initTimerExpiry (inMode .init idle) = inMode .init idle := by decide +kernel

/-! ### The ends of exchanges, of aborts, of checks and of loads for every requester -/

/-- The part with an operation in flight on unit 0 of a port, of which a probe has found 100 blocks. -/
def exchange (port : Port) (kind : PortKind) (op : PortOp) (rq : Requester) (count : Nat) (p : Part) : Part :=
  setEntry port
    { freshEntry kind true with
      state := .busy
      count := count
      units := (freshEntry kind true).units.set 0 ⟨.present, .ready, some 100⟩
      op := some ⟨op, 0, rq, some kind.timeoutMs, [], []⟩ } p

/-- The part in a VOLUME, in a BOOT or STAGE, and in a search that stands at an entry. -/
def volumeRun (port : Port) (capacity : Option Nat) : Part :=
  slotTaken .volume none (some (.volume none port 0 capacity)) idle

def startRun (boot : Bool) (stage : StartStage) : Part :=
  slotTaken (if boot then .boot else .stage) none (some (.start boot none .sp0 0 false stage)) idle

def searching (entry tries : Nat) (stage : RunStage) : Part :=
  { inMode (.auto .search) (holding .searchRun idle) with
    sre := { idle.sre with run := some ⟨.start, none, 1, .normal, entry, 0, tries, none, stage⟩ } }

/-- The operation in flight on a port. -/
def opOn (port : Port) (p : Part) : Option PortOp := ((entryOf p port).bind PortEntry.op).map InFlight.op

/-- The outcome of the newest record of the attempt log. -/
def lastOutcome (p : Part) : Option AttemptOutcome := p.sre.log.getLast?.map AttemptRecord.outcome

/-- The lines of the reply that the console is sending. -/
def repliedLines (p : Part) : List (List Field) := ((p.con.tx.bind ConsoleItem.record).map Record.lines).getD []

/-- Answers of a FLASH device: no device, a capacity, a block. -/
def noFlash : Instr := .flashExchangeEnd .sp0 (.identify 0 0 0)
def flashReady : Instr := .flashExchangeEnd .sp0 (.identify 1 2 0x10)
def flashBlock (data : List Byte) : Instr := .flashExchangeEnd .sp0 (.block data false)

/-- A block that VCL cannot name. -/
def strangeBlock : List Byte := List.replicate 512 0x11

theorem exchange_answers (op : PortOp) (rq : Requester) :
    entryOf (exchange .sp0 .flash op rq 2 idle) .sp0 =
        some
          { freshEntry .flash true with
            state := .busy
            count := 2
            units := [⟨.present, .ready, some 100⟩]
            op := some ⟨op, 0, rq, some 20, [], []⟩ } ∧
      readable { freshEntry .flash true with units := [⟨.present, .ready, some 100⟩] } 0 99 :=
  ⟨rfl, ⟨by decide, by decide, nofun⟩, 100, rfl, by decide⟩

theorem witness_ProbeResultsAreDelivered :
    probeAnswer .flash .sp0 noFlash .absent ∧ probeAnswer .flash .sp0 flashReady (.ready 0x80) ∧
      repliedLines (after noFlash (exchange .sp0 .flash .probe .volumeVerb 0 (volumeRun .sp0 none))) =
        [[.num 0, .num 0, .word "NOT-PRESENT"]] ∧
      repliedLines (after (.exchangeTimeout .sp0) (exchange .sp0 .flash .probe .volumeVerb 2 (volumeRun .sp0 none))) = [] ∧
      opOn .sp0 (after flashReady (exchange .sp0 .flash .probe .volumeVerb 0 (volumeRun .sp0 none))) = some (.read 0 2 0) ∧
      lastOutcome (after noFlash (exchange .sp0 .flash .probe .manualStart 0 (startRun true .probing))) = some .notPresent ∧
      (after flashReady (exchange .sp0 .flash .probe .manualStart 0 (startRun false .probing))).sup.verbRun =
        some (.start false none .sp0 0 false (.block0 0x80)) ∧
      lastOutcome (after noFlash (exchange .sp0 .flash .probe .search 0 (searching 2 0 .probing))) = some .notPresent ∧
      opOn .sp2 (after noFlash (exchange .sp0 .flash .probe .search 0 (searching 2 0 .probing))) = some .probe ∧
      opOn .sp0 (after (.exchangeTimeout .sp0) (exchange .sp0 .flash .probe .search 0 (searching 2 0 .probing))) =
        some .probe ∧
      opOn .sp2 (after (.exchangeTimeout .sp0) (exchange .sp0 .flash .probe .search 0 (searching 2 1 .probing))) =
        some .probe ∧
      lastOutcome (after (.exchangeTimeout .sp0) (exchange .sp0 .flash .probe .search 2 (searching 2 1 .probing))) =
        some .notReady ∧
      opOn .sp0 (after flashReady (exchange .sp0 .flash .probe .search 0 (searching 2 0 .probing))) = some (.read 0 2 0) :=
  ⟨.inl ⟨rfl, 0, 0, 0, rfl, .inl ⟨.inl ⟨rfl, rfl, rfl⟩, rfl⟩⟩,
    .inl ⟨rfl, 1, 2, 0x10, rfl, .inr (.inl ⟨by decide, by decide, rfl⟩)⟩, by decide +kernel⟩

/-- The part with an order of one entry, which stands for its port. -/
def onlyEntry (e : BootEntry) (maxrounds : Nat) (p : Part) : Part :=
  { p with sst := { p.sst with settings := { p.sst.settings with order := [e], maxrounds := maxrounds } } }

theorem witness_ReadResultsAreDelivered :
    let volume (c : Instr) := after c (exchange .sp0 .flash (.read 0 2 2) .volumeVerb 0 (volumeRun .sp0 (some 100)))
    let start (boot : Bool) (c : Instr) (spent : List CandidateKey) :=
      after c (exchange .sp0 .flash (.read 0 2 2) .manualStart 0
        { startRun boot (.block0 100) with sre := { idle.sre with spent := spent } })
    let search (policy : Policy) (maxrounds : Nat) (c : Instr) (spent : List CandidateKey) (released : Nat) :=
      after c (exchange .sp0 .flash (.read 0 2 2) .search 0
        (onlyEntry ⟨.sp0, 0, 0, 1, policy, false⟩ maxrounds
          { searching 1 0 (.block0 100) with
            sre := { (searching 1 0 (.block0 100)).sre with spent := spent, releaseCount := released } }))
    readAnswer .flash .sp0 0 (flashBlock bootBlock) ⟨.present, .ready, some 100⟩ (.data bootBlock)
        ⟨.present, .ready, some 100⟩ ∧
      (repliedLines (volume (flashBlock bootBlock))).length = 3 ∧
      repliedLines (volume (flashBlock strangeBlock)) =
        [[.num 0, .num 0, .word "UNKNOWN", .word "CHECK", .word "SIGNATURE"]] ∧
      repliedLines (volume (.flashExchangeEnd .sp0 (.block strangeBlock true))) =
        [[.num 0, .num 0, .word "READ-FAULT", .word "BLOCK", .num 0]] ∧
      lastOutcome (start true (.exchangeTimeout .sp0) []) = some .readFault ∧
      lastOutcome (start false (flashBlock strangeBlock) []) = some .unknownSkipped ∧
      lastOutcome (start true (flashBlock bootBlock) [⟨.sp0, 0, 0xA5⟩]) = some .spent ∧
      (start true (flashBlock bootBlock) []).mmp.txn = some ⟨.write 0, 0x1000, .loader⟩ ∧
      (start false (flashBlock bootBlock) [⟨.sp0, 0, 0xA5⟩]).mmp.txn = some ⟨.write 0, 0x1000, .loader⟩ ∧
      lastOutcome (search .skip 1 (flashBlock (List.replicate 512 0)) [] 0) = some .blank ∧
      (search .skip 1 (flashBlock (List.replicate 512 0)) [] 0).sup.mode = .manual none ∧
      (search .skip 2 (flashBlock strangeBlock) [] 0).sup.mode = .auto .wait ∧
      (search .ask 1 (flashBlock strangeBlock) [] 0).sre.question = some ⟨1, .sp0, 0⟩ ∧
      (search .take 1 (flashBlock strangeBlock) [] 0).sup.mode = .auto .load ∧
      lastOutcome (search .skip 1 (flashBlock bootBlock) [⟨.sp0, 0, 0xA5⟩] 0) = some .spent ∧
      (search .skip 1 (flashBlock bootBlock) [] 3).sup.mode = .halted .budget ∧
      (search .skip 1 (flashBlock bootBlock) [] 2).sup.mode = .auto .load ∧
      lastOutcome (search .skip 1 (.exchangeTimeout .sp0) [] 0) = some .readFault :=
  ⟨.inl ⟨bootBlock, by decide +kernel, rfl, rfl, .inl ⟨rfl, rfl⟩⟩, by decide +kernel⟩

/-- A LINK port that reads block 0 for a VOLUME, some exchanges of the READ made. -/
def linkReading (made : Nat) : Part :=
  setEntry .sp3
    { freshEntry .link false with
      state := .busy
      units := (freshEntry .link false).units.set 0 ⟨.present, .ready, some 100⟩
      op := some ⟨.read 0 2 made, 0, .volumeVerb, some 3000, [], []⟩ } (volumeRun .sp3 (some 100))

theorem witness_LinkAndLastExchangesEndAReadOfVolume :
    repliedLines (after (.linkAnswerFrame .sp3 (answerFrame 0x82 0 strangeBlock)) (linkReading 0)) =
        [[.num 3, .num 0, .word "UNKNOWN", .word "CHECK", .word "SIGNATURE"]] ∧
      repliedLines (after (.linkAnswerFrame .sp3 (answerFrame 0x83 0 [])) (linkReading 0)) = [[.num 3, .num 0, .word "NOT-READY"]] ∧
      repliedLines (after (.linkAnswerFrame .sp3 (answerFrame 0x84 0 [])) (linkReading 0)) =
        [[.num 3, .num 0, .word "MEDIA-LOST", .word "BLOCK", .num 0]] ∧
      opOn .sp3 (after (.linkAnswerFrame .sp3 (answerFrame 0x81 0 [])) (linkReading 1)) = some (.read 0 2 2) ∧
      repliedLines (after (.linkAnswerFrame .sp3 (answerFrame 0x82 1 strangeBlock)) (linkReading 2)) =
        [[.num 3, .num 0, .word "READ-FAULT", .word "BLOCK", .num 0]] ∧
      repliedLines (after (.exchangeTimeout .sp3) (linkReading 2)) =
        [[.num 3, .num 0, .word "READ-FAULT", .word "BLOCK", .num 0]] ∧
      said (after (.exchangeTimeout .sp0) (exchange .sp0 .flash (.read 0 7 0) .volumeVerb 2 (volumeRun .sp0 (some 100)))) =
        some (.notice, 203) := by decide +kernel

/-- An image of one DATA segment of eight zero bytes from block 1, and a handoff record. -/
def dataPlan (rq : LoadRequester) (verify : Bool) (cursor : Option LoadCursor) : LoadPlan :=
  { fillPlan rq cursor with
    image :=
      { fillImage with
        handoff := some 0x8000
        segments := [⟨1, 0x1000, 8, some 1, some (crc32 (List.replicate 8 0)), .r1⟩] }
    verify := verify
    written := [(1, crc32 (List.replicate 8 0))] }

/-- The part in the load of that image, with a transaction in flight at a point of the load. -/
def storing (rq : LoadRequester) (verify : Bool) (kind : TxnKind) (cur : LoadCursor) : Part :=
  let base : Part :=
    match rq with
    | .search => inMode (.auto .load) (searching 2 0 .loading)
    | .boot => startRun true .loading
    | .stage => startRun false .loading
  { setEntry .sp0 { freshEntry .flash true with units := [⟨.present, .ready, some 100⟩] } base with
    ldr := { image := .partly, plan := some (dataPlan rq verify (some cur)), handoff := none }
    mmp := { idle.mmp with txn := some ⟨kind, cur.address, .loader⟩ } }

/-- A point of the writes and of the read-back of that load, and of the writes of its handoff record. -/
def writeAt (a : Nat) (crc : Word32) (left : Nat) : LoadCursor := ⟨.write, 1, 2, a, crc, List.replicate left 0, []⟩
def verifyAt (a : Nat) (crc : Word32) : LoadCursor := ⟨.verify, 1, 0, a, crc, [], []⟩
def handoffAt (a left : Nat) : LoadCursor := ⟨.handoff, 0, 0, a, 0, List.replicate left 0, List.replicate 64 0⟩

/-- The running CRC of four zero bytes. -/
def fourZeros : Word32 := crc32Run 0xFFFFFFFF (List.replicate 4 0)

theorem witness_DataSegmentsAreWrittenReadBackAndHandedOver :
    let done (p : Part) := after (.memoryResponse true false 0) p
    (storing .stage true (.write 0) (writeAt 0x1000 0xFFFFFFFF 8)).sup.abortPending = false ∧
      segmentAt 1 (dataPlan .stage true none).image = some ⟨1, 0x1000, 8, some 1, some (crc32 (List.replicate 8 0)), .r1⟩ ∧
      bytesWord (List.replicate 8 0) = 0 ∧
      (done (storing .stage true (.write 0) (writeAt 0x1000 0xFFFFFFFF 8))).mmp.txn = some ⟨.write 0, 0x1004, .loader⟩ ∧
      opOn .sp0 (done (storing .stage true (.write 0) (writeAt 0x1000 0xFFFFFFFF 4))) = some (.read 2 2 0) ∧
      (done (storing .stage true (.write 0) (writeAt 0x1004 fourZeros 4))).mmp.txn = some ⟨.read, 0x1000, .loader⟩ ∧
      (done (storing .stage false (.write 0) (writeAt 0x1004 fourZeros 4))).mmp.txn.map Transaction.address = some 0x8000 ∧
      lastOutcome (done (storing .stage true (.write 0) (writeAt 0x1004 0 4))) = some .damaged ∧
      (done (storing .stage true .read (verifyAt 0x1000 0xFFFFFFFF))).mmp.txn = some ⟨.read, 0x1004, .loader⟩ ∧
      (done (storing .stage true .read (verifyAt 0x1004 fourZeros))).mmp.txn.map Transaction.address = some 0x8000 ∧
      (done (storing .stage true .read (verifyAt 0x1004 0))).mmp.health.i1 = .defective ∧
      lastOutcome (done (storing .stage true .read (verifyAt 0x1004 0))) = some .memoryFault ∧
      (done (storing .stage true (.write 0) (handoffAt 0x8038 8))).mmp.txn = some ⟨.write 0, 0x803C, .loader⟩ ∧
      (done (storing .stage true (.write 0) (handoffAt 0x803C 4))).ldr.image = .staged ∧
      (done (storing .stage true (.write 0) (handoffAt 0x803C 4))).sup.mode = .manual none ∧
      (done (storing .boot true (.write 0) (handoffAt 0x803C 4))).sup.mode = .targetRun .confirmWait ∧
      (done (storing .search true (.write 0) (handoffAt 0x803C 4))).rlu.released.map Released.kind = some .automatic ∧
      (after .responseTimeout (storing .stage true (.write 0) (handoffAt 0x8000 64))).mmp.health.i1 = .defective ∧
      opOn .sp2 (after .responseTimeout (storing .search true (.write 0) (writeAt 0x1000 0 8))) = some .probe := by
  decide +kernel

theorem witness_ReadResultsAreDeliveredToTheLoader :
    let read (rq : LoadRequester) (c : Instr) :=
      after c (exchange .sp0 .flash (.read 1 2 2) .loader 0
        { storing rq true (.write 0) (writeAt 0x1000 0xFFFFFFFF 0) with mmp := { idle.mmp with txn := none } })
    (read .stage (flashBlock strangeBlock)).mmp.txn = some ⟨.write 0x11111111, 0x1000, .loader⟩ ∧
      lastOutcome (read .stage (.exchangeTimeout .sp0)) = some .readFault ∧
      (read .stage (.exchangeTimeout .sp0)).sup.mode = .manual none ∧
      opOn .sp0 (read .search (.exchangeTimeout .sp0)) = some .probe := by decide +kernel

/-- A search and a load with an exchange in flight, with what their withdrawal leaves. -/
theorem witness_OwnersEndTheirAborts :
    (∃ q, withdrawn (exchange .sp0 .flash .probe .search 0 (searching 2 0 .probing)) q) ∧
      withdrawn (checking .quick 1 none .read 0) (checking .quick 1 none .read 0) ∧ asking.rlu.treset = .asserted ∧
      lastOutcome (abortOperation (exchange .sp0 .flash .probe .search 0 (searching 2 0 .probing))) = some .aborted ∧
      said (abortOperation (exchange .sp0 .flash .probe .search 0 (searching 2 0 .probing))) = some (.notice, 302) ∧
      lastOutcome (abortOperation asking) = some .aborted ∧ (abortOperation asking).sre.question = none ∧
      said (abortOperation waiting) = some (.notice, 801) ∧
      (abortOperation (exchange .sp0 .flash (.read 1 2 0) .loader 0
          { storing .search true .read (writeAt 0x1000 0 0) with mmp := idle.mmp })).con.notices.map Record.code =
        [702, 801] ∧
      said (abortOperation
        { checking .quick 1 none .read 0 with mmp := idle.mmp }) = some (.notice, 503) ∧
      repliedLines (abortOperation (exchange .sp0 .flash .probe .volumeVerb 0 (volumeRun .sp0 none))) =
        [[.num 0, .num 0, .word "ABORTED"]] ∧
      repliedLines (abortOperation { peeking 0x100 2 with mmp := idle.mmp }) = [[.word "ABORTED"]] ∧
      lastOutcome (abortOperation (exchange .sp0 .flash .probe .manualStart 0 (startRun true .probing))) = some .aborted ∧
      lastOutcome (abortOperation (exchange .sp0 .flash (.read 1 2 0) .loader 0
        { storing .stage true .read (writeAt 0x1000 0 0) with mmp := idle.mmp })) = some .aborted :=
  ⟨⟨_, .inr ⟨.sp0, _, _, rfl, rfl, by decide +kernel, rfl⟩⟩, .inl ⟨by decide +kernel, rfl⟩, by decide +kernel⟩

/-- The part while an abort waits for the transaction in flight. -/
def abortWaits (p : Part) : Part := { p with sup := { p.sup with abortPending := true } }

theorem witness_AbortsFollowTheirTransaction :
    checkFinds { (checking .quick 1 none (.write 0x400) 0).mck.run.get rfl with phase := 1 } .responseTimeout
        (some ⟨0x400, .noResponse, none, none, 1⟩) ∧
      (after (.memoryResponse true false 0) (abortWaits (checking .read 0 none .read 0))).mck.defects = [] ∧
      (after .responseTimeout (abortWaits (checking .quick 1 none (.write 0x400) 15))).mck.defects.length = 16 ∧
      (after (.memoryResponse true false 0x401) (abortWaits (checking .quick 2 none .read 16))).mmp.health.i1 = .defective ∧
      (after (.memoryResponse true false 0) (abortWaits (filling 1 0x1000))).mmp.health.i1 = .unchecked ∧
      (after (.memoryResponse false true 0) (abortWaits (filling 1 0x1000))).mmp.health.i1 = .defective ∧
      lastOutcome (after .responseTimeout (abortWaits (filling 1 0x1000))) = some .aborted ∧
      repliedLines (after .responseTimeout (abortWaits (peeking 0x100 2))) =
        [[.num 0x100, .code 602], [.word "ABORTED"]] ∧
      repliedLines (after (.memoryResponse true false 9) (abortWaits (peeking 0x100 2))) =
        [[.num 0x100, .num 9], [.word "ABORTED"]] :=
  ⟨.inl ⟨rfl, rfl⟩, by decide +kernel⟩

/-- The part in a check of region 1, of two pages, and region 2, of one, at a word. -/
def coursing (origin : CheckOrigin) (kind : CheckKind) (passes pass phase cursor : Nat) (current : Idx) (marks : List Idx)
    (firstRead : Option Word32) : Part :=
  let base : Part :=
    match origin with
    | .verb => inMode (.manual (some .check)) (holding (.verb .check none) idle)
    | .auto => inMode (.auto .check) (holding .automaticCheck idle)
  { base with
    sst :=
      { idle.sst with
        settings :=
          { defaultSettings with
            checkfail := .halt
            map :=
              { Eight.const none with
                i1 := some ⟨0x8000, 0x2000, true, true, false⟩
                i2 := some ⟨0xFFFFF000, 0x1000, false, true, true⟩ } } }
    mck :=
      { run := some
          { origin := origin, tag := none, asked := kind, regions := [.r1, .r2], passes := passes, stop := false,
            pass := pass, current := current, effective := if current = .r2 then .read else kind, phase := phase,
            cursor := cursor, written := true, marks := marks, firstRead := firstRead }
        defects := []
        dropped := 0 }
    mmp := { idle.mmp with txn := some ⟨checkWord phase cursor, cursor, .checker⟩ } }

theorem witness_ChecksGoOnAndEnd :
    let done (w : Word32) (p : Part) := (after (.memoryResponse true false w) p)
    let last (origin : CheckOrigin) (passes pass : Nat) (marks : List Idx) :=
      done 7 (coursing origin .quick passes pass 0 0xFFFFFFFC .r2 marks (some 7))
    inWordSet .quick ⟨0x8000, 0x2000, true, true, false⟩ 0x9FFC ∧
      (done 5 (coursing .verb .quick 1 1 0 0xFFFFF000 .r2 [] none)).mck.run.map CheckRun.firstRead = some (some 5) ∧
      (done 5 (coursing .verb .quick 1 1 0 0xFFFFF000 .r2 [] (some 5))).mmp.txn = some ⟨.read, 0xFFFFF004, .checker⟩ ∧
      (done 5 (coursing .verb .quick 1 1 0 0xFFFFF000 .r2 [] (some 4))).mck.defects =
        [⟨0xFFFFF000, .unstable, none, some 5, 1⟩] ∧
      (done 0 (coursing .verb .walk 1 1 1 0x8000 .r1 [] none)).mmp.txn = some ⟨.write 0x8004, 0x8004, .checker⟩ ∧
      (done 0 (coursing .verb .walk 1 1 1 0x9FFC .r1 [] none)).mmp.txn = some ⟨.read, 0x8000, .checker⟩ ∧
      (done 0x9FFC (coursing .verb .walk 1 1 2 0x9FFC .r1 [] none)).mmp.txn = some ⟨.write 0xFFFF7FFF, 0x8000, .checker⟩ ∧
      (done 0xFFFF6003 (coursing .verb .walk 1 1 4 0x9FFC .r1 [] none)).mmp =
        { idle.mmp with health := { idle.mmp.health with i1 := .good }, txn := some ⟨.read, 0xFFFFF000, .checker⟩ } ∧
      (done 0 (coursing .verb .walk 1 1 4 0x9FFC .r1 [] none)).mmp.health.i1 = .defective ∧
      (last .verb 2 1 []).mck.run.map CheckRun.pass = some 2 ∧ said (last .verb 2 1 []) = some (.notice, 501) ∧
      (last .verb 0 0xFFFF []).mck.run.map CheckRun.pass = some 0xFFFF ∧
      (last .verb 2 2 []).sup.mode = .manual none ∧ (last .verb 2 2 []).con.notices.map Record.code = [502] ∧
      (last .auto 1 1 [.r1]).sup.mode = .halted .check ∧ (last .auto 1 1 []).sre.lastRound = 1 :=
  ⟨⟨by decide, by decide, by decide, fun _ => .inr (.inl (by decide))⟩, by decide +kernel⟩

/-! ### Bytes after a frame, replies behind others, removals, the end of INIT and of a window -/

/-- A LINK port whose request for a capacity goes out for a VOLUME. -/
def linkProbing : Part :=
  setEntry .sp3 { freshEntry .link false with state := .busy, op := some ⟨.probe, 0, .volumeVerb, none, [], []⟩ }
    (volumeRun .sp3 none)

theorem witness_BytesAfterAFrameGoToTheNextRequest :
    let bad := answerFrame 0x81 0 []
    let received (p : Part) := ((entryOf p .sp3).bind PortEntry.op).map fun f => (f.op, f.received)
    bad ≠ [] ∧ assemble bad ≠ .incomplete ∧ (List.range bad.length).all (fun n => assemble (bad.take n) = .incomplete) = true ∧
      received (after (.linkAnswerFrame .sp3 (bad ++ [0x55, 0x7E, 0x82])) (linkReading 0)) =
        some (.read 0 2 1, [0x55, 0x7E, 0x82]) ∧
      received (after (.linkAnswerFrame .sp3 (bad ++ bad ++ [0x7E])) (linkReading 0)) = some (.read 0 2 2, [0x7E]) ∧
      received (after (.linkAnswerFrame .sp3 ([0x7E, 0x81, 0, 0, 0, 0, 0, 5, 0] ++ [0x7E])) (linkReading 0)) =
        some (.read 0 2 1, [0x7E]) ∧
      received (after (.linkAnswerFrame .sp3 (answerFrame 0x81 0 (leBytes 4 100) ++ [0x7E, 0x82])) linkProbing) =
        some (.read 0 2 0, [0x7E, 0x82]) ∧
      repliedLines (after (.linkAnswerFrame .sp3 (answerFrame 0x81 0 (leBytes 4 100) ++ answerFrame 0x84 0 [])) linkProbing) =
        [[.num 3, .num 0, .word "MEDIA-LOST", .word "BLOCK", .num 0]] ∧
      received (after (.linkAnswerFrame .sp3 (bad ++ bad ++ bad ++ [0x7E])) (linkReading 0)) = none ∧
      after (.linkAnswerFrame .sp3 bad) idle = idle := by decide +kernel

theorem witness_AbortRepliesWaitBehindOthers :
    let waiting (p : Part) := (after (.abort none []) (sending p)).con.replies.map fun i => i.record.map Record.code
    (sending (probed .sp0 .flash)).con.tx ≠ none ∧ waiting (probed .sp0 .flash) = [some 0, some 0] ∧
      waiting (volumeRun .sp0 none) = [some 0, some 0] ∧
      (after (.memoryResponse false true 0) (after .lineBreak poking)).sup.mode = .manual none ∧
      said (after (.memoryResponse false true 0) (after .lineBreak poking)) = some (.refused, 603) ∧
      (after .responseTimeout (after (.abort none []) (sending poking))).con.replies.map (fun i => i.record.map Record.code) =
        [some 0, some 602] := by decide +kernel

theorem witness_FailedReadsOfCardBlockAndLinkAreRetried :
    let next (p : Part) (port : Port) := (entryOf p port).map fun e => (e.count, e.op.map InFlight.op)
    next (after (.cardExchangeEnd .sp1 (.block (List.replicate 512 0) false)) (readingVolume .sp1 .card 0 1)) .sp1 =
        some (0, some (.read 0 2 1)) ∧
      next (after (.blockExchangeEnd .sp2 .otherStatus) (readingVolume .sp2 .block 0 1)) .sp2 = some (0, some (.read 0 2 1)) ∧
      next (after (.exchangeTimeout .sp3) (linkReading 0)) .sp3 = some (1, some (.read 0 2 1)) := by decide +kernel

theorem witness_RemovalsEndEveryOperation :
    let removed (p : Part) := after (.cardRemoved .sp1) (sensing false p)
    repliedLines (after .consoleRecordSent (removed (readingVolume .sp1 .card 0 1))) =
        [[.num 1, .num 0, .word "MEDIA-LOST", .word "BLOCK", .num 0]] ∧
      repliedLines (after .consoleRecordSent (removed (exchange .sp1 .card .probe .volumeVerb 0 (volumeRun .sp1 none)))) =
        [[.num 1, .num 0, .word "NOT-PRESENT"]] ∧
      lastOutcome (removed (exchange .sp1 .card .probe .search 0 (searching 2 0 .probing))) = some .notPresent ∧
      lastOutcome (removed (exchange .sp1 .card (.read 0 2 0) .search 0 (searching 2 1 (.block0 100)))) = some .mediaLost := by
  decide +kernel

theorem witness_StageAndBootOnAFaultOrWithNoCard :
    (entryOf (faulted .sp2 .block) .sp2).map PortEntry.state = some .fault ∧
      lastOutcome (after (.stage none (ws ["2", "0"])) (faulted .sp2 .block)) = some .notReady ∧
      (entryOf idle .sp1).map PortEntry.cardPresent = some false ∧
      lastOutcome (after (.boot none (ws ["1", "0"])) idle) = some .notPresent ∧
      (after (.boot none (ws ["1", "0"])) idle).sup.mode = .manual none := by decide +kernel

theorem witness_AFallbackRunBegins :
    let begun := after .windowExpiry (running .automatic .confirmWait)
    let ended := after .windowExpiry
      { barren 1 with
        ldr := (running .automatic .confirmWait).ldr
        rlu := (running .automatic .confirmWait).rlu
        tgt := (running .automatic .confirmWait).tgt }
    begun.sre.log.map AttemptRecord.outcome = [.confirmTimeout, .notPresent] ∧
      begun.con.notices.map Record.code = [712, 300, 302] ∧
      begun.sre.run.map SearchRun.origin = some .fallback ∧ opOn .sp0 begun = some .probe ∧
      ended.sre.run = none ∧ ended.sup.mode = .manual none ∧ ended.sre.lastRound = 1 := by decide +kernel

theorem witness_InitEndsWithTheSettings :
    let settled := after .settingsSettled (after .initTimerExpiry (after .pinReset (stored 1 2)))
    (after .initTimerExpiry (after .pinReset (stored 1 2))).sup.initTimer = false ∧ settled.sup.mode = .auto .check ∧
      settled.con.notices.map Record.code = [904, 800, 500] ∧ settled.mmp.txn = some ⟨.write 0, 0, .checker⟩ ∧
      (after .initTimerExpiry (starting defaultSettings)).mmp.txn = some ⟨.write 0, 0, .checker⟩ ∧
      said (after .initTimerExpiry (starting defaultSettings)) = some (.notice, 800) ∧
      (after .initTimerExpiry (starting defaultSettings)).con.notices.map Record.code = [500] := by decide +kernel

/-! ### States that meet the conditions every step keeps, other than the state after reset -/

theorem witness_SettingsStaySound : settingsSound savingB := by
  refine ⟨by decide +kernel, fun c hc => ?_, fun c hc => ?_, fun v hv => ?_⟩
  · obtain rfl := Option.some.inj hc
    decide +kernel
  · exact absurd hc nofun
  · obtain rfl := Option.some.inj hv
    decide +kernel

theorem witness_StoredCopiesStaySound : initIdle savingB ∧ copiesSound savingB := ⟨⟨nofun, nofun⟩, savingB_copies⟩

theorem witness_ListsStaySound :
    listsSound
      { idle with sre := { idle.sre with
        log := [⟨0xFFFF, ⟨1, 1, .sp0, 0⟩, .blank, none, none⟩, ⟨1, ⟨1, 2, .sp0, 0⟩, .blank, none, none⟩], nextSeq := 2 } } := by
  refine ⟨by decide, ⟨rfl, rfl⟩, by decide, by decide, ?_, by decide, by decide, by decide, by decide⟩
  intro r hr
  simp at hr
  rcases hr with rfl | rfl <;> decide

theorem witness_ConsoleStaysSound : consoleSound (noticed 16 idle) :=
  ⟨by decide, by decide, by decide, by decide, by decide, by decide, by decide, by decide, nofun⟩

theorem witness_TargetLineStaysSound : targetSound crowdedTarget :=
  ⟨by decide, by decide, by decide, nofun, nofun, by decide⟩

theorem witness_SlotStaysSound :
    slotSound asking = true ∧ slotSound waiting = true ∧ slotSound (running .automatic .confirmWait) = true ∧
      slotSound (filling 1 0x1000) = true ∧ slotSound (checking .quick 2 none .read 0) = true := by decide +kernel

theorem witness_TransactionsStayPermitted : slotSound (filling 1 0x1000) = true ∧ portSound (filling 1 0x1000) := by
  refine ⟨by decide +kernel, fun t ht => ?_⟩
  obtain rfl := Option.some.inj ht
  decide +kernel

end Sys2Proof.Tests
end

/-! PROOFS. The boot order list and the search: LOG (R58), the edits of the boot order list (R39 to R41), and the ends of a
question (R52 to R54). -/

namespace Sys2Proof.Proofs

open Sys2Proof Sys2Proof.Machine

/-! ### A console reply with nothing waiting ahead of it (R173, R182) -/

theorem reply_quiet {p : Part} (h : consoleQuiet p) (i : ConsoleItem) :
    reply i p = { p with con := p.con.answered i } := by
  obtain ⟨-, hr⟩ := h
  cases ht : p.con.tx with
  | none => simp [reply_free ht hr, Console.answered, ht, ← hr]
  | some j => simp [reply_busy ht, Console.answered, ht, hr]

theorem replyRecord_quiet {p : Part} (h : consoleQuiet p) (r : Record) : replyRecord r p = answers r p :=
  reply_quiet h _

theorem replyOk_quiet {p : Part} (h : consoleQuiet p) (tag : Option Tag) : replyOk tag p = answersOk tag p :=
  reply_quiet h _

theorem refuse_quiet {p : Part} (h : consoleQuiet p) (code : Nat) (tag : Option Tag) :
    refuse code tag p = refuses code tag p :=
  reply_quiet h _

/-! ### A verb line with nothing waiting ahead of it (R141, R173) -/

section VerbLine

variable {c : Instr} {v : Verb} {tag : Option Tag} {args : List Text} {as : List Arg} {s : State}

/-- A verb command whose line is taken at once and whose argument words are good gives what SUP does with the request. -/
theorem yields_takeConsole (hx : exec c s = s.on (consoleVerb v tag args)) (ha : classifyWords args = .inr as)
    (hq : consoleQuiet s.toPart) : Yields c s (takeConsole ⟨v, tag, as⟩ s.toPart) := by
  obtain ⟨hl, hr⟩ := hq
  simp [Yields, hx, consoleVerb, arriveConsole_idle hl hr, verbRequest, ha, followConsole]

/-- A verb command that SUP takes and the mode admits gives what the verb's owner does. -/
theorem yields_owner (hx : exec c s = s.on (consoleVerb v tag args)) (ha : classifyWords args = .inr as)
    (ht : requestTaken s.toPart) (hm : admits v s.sup.mode = true) : Yields c s (ownerOf v tag as s.toPart) := by
  obtain ⟨hq, hi, hp⟩ := ht
  have h := yields_takeConsole hx ha hq
  rwa [takeConsole_admitted hi hp (.inr hm)] at h

end VerbLine

/-! ### LOG (R57, R58) -/

theorem admits_log {m : Mode} (h : m ≠ .init) : admits .log m = true := by
  cases m with
  | init => exact absurd rfl h
  | _ => rfl

theorem listVerb_nil (lines : Part → List (List Field)) (tag : Option Tag) (p : Part) :
    listVerb lines tag [] p = replyRecord (multiLine tag (lines p)) p := rfl

theorem listVerb_args (lines : Part → List (List Field)) (tag : Option Tag) {args : List Arg} (h : args ≠ []) (p : Part) :
    listVerb lines tag args p = refuse 111 tag p := by
  cases args with
  | nil => exact absurd rfl h
  | cons a as => rfl

/-- A verb whose owner lists state replies with the lines, or with 111 to an argument. -/
theorem lists_of_listVerb {verb : Option Tag → List Text → Instr} {v : Verb} {lines : Part → List (List Field)} {s : State}
    (hx : ∀ tag args, exec (verb tag args) s = s.on (consoleVerb v tag args)) (ho : ownerOf v = listVerb lines)
    (ht : requestTaken s.toPart) (hm : admits v s.sup.mode = true) : Lists verb (lines s.toPart) s := by
  refine fun tag args => ⟨?_, fun as ha hne => ?_⟩
  · rintro rfl
    have h := yields_owner (as := []) (hx tag []) rfl ht hm
    rwa [ho, listVerb_nil, replyRecord_quiet ht.1] at h
  · have h := yields_owner (hx tag args) ha ht hm
    rwa [ho, listVerb_args lines tag hne, refuse_quiet ht.1] at h

/-- The text form of a record, its optional fields written out (R57). -/
theorem textFields_eq (r : AttemptRecord) :
    r.textFields =
      [.num r.seq, .num r.fields.round, .num r.fields.entry, .num r.fields.port.num, .num r.fields.unit,
          .word r.outcome.name] ++ (match r.detail with | some d => [.word "DETAIL", .num d] | none => []) ++
        (match r.imageId with | some i => [.word "ID", .num i.toNat] | none => []) := by
  unfold AttemptRecord.textFields
  cases r.detail <;> cases r.imageId <;> rfl

/-- Settles O18: LOG is a listing verb that every mode but INIT admits. -/
theorem logListsTheAttemptLog : Obligations.LogListsTheAttemptLog := by
  refine fun s => ⟨fun ht => ?_, fun hq hm tag args as ha => ?_⟩
  · have h := lists_of_listVerb (verb := .log) (v := .log) (fun _ _ => rfl) rfl ht (admits_log ht.2.1)
    rwa [List.map_congr_left fun r _ => textFields_eq r] at h
  · have h := yields_takeConsole (c := .log tag args) rfl ha hq
    rwa [takeConsole_refused (.inl hm), refuse_quiet hq] at h

/-! ### ORDER DEL (R40) -/

theorem orderDelVerb_form (tag : Option Tag) {args : List Arg} (h : ∀ i, args ≠ [.num i]) (p : Part) :
    orderDelVerb tag args p = refuse 111 tag p := by
  unfold orderDelVerb
  split
  case h_1 i => exact absurd rfl (h i)
  case h_2 => rfl

theorem orderDelVerb_index (tag : Option Tag) (i : Nat) (p : Part) :
    orderDelVerb tag [.num i] p =
      if i < 1 ∨ 12 < i then refuse 112 tag p
      else if p.sst.settings.order.length < i then refuse 122 tag p
      else replyOk tag (setOrder (p.sst.settings.order.eraseIdx (i - 1)) p) := rfl

theorem eraseIdx_pred {α : Type} (l : List α) {i : Nat} (h : 1 ≤ i) : l.eraseIdx (i - 1) = l.take (i - 1) ++ l.drop i := by
  rw [List.eraseIdx_eq_take_drop_succ, Nat.sub_add_cancel h]

theorem consoleQuiet_setOrder {p : Part} (h : consoleQuiet p) (l : List BootEntry) : consoleQuiet (setOrder l p) := h

/-- Settles O21, by the judgement of ORDER DEL's one index. -/
theorem orderDelClosesTheGap : Obligations.OrderDelClosesTheGap := by
  intro tag args as s ha ht ⟨b, hm⟩
  have h : Yields (.orderDel tag args) s (orderDelVerb tag as s.toPart) :=
    yields_owner (v := .orderDel) rfl ha ht (hm ▸ rfl)
  refine ⟨fun hf => ?_, ?_⟩
  · rwa [orderDelVerb_form tag hf, refuse_quiet ht.1] at h
  rintro i rfl
  rw [orderDelVerb_index] at h
  refine ⟨fun hi => ?_, fun h1 h12 hn => ?_, fun h1 h12 hn => ?_⟩
  · rwa [if_pos hi, refuse_quiet ht.1] at h
  · rwa [if_neg (by omega), if_pos hn, refuse_quiet ht.1] at h
  · rwa [if_neg (by omega), if_neg (by omega), replyOk_quiet (consoleQuiet_setOrder ht.1 _), eraseIdx_pred _ h1] at h

/-! ### ORDER PUT (R39) -/

theorem portOfNat?_eq_none {x : Nat} (h : 3 < x) : Port.ofNat? x = none := by
  match x, h with
  | x + 4, _ => rfl

theorem le_three_of_portOfNat? {x : Nat} {port : Port} (h : Port.ofNat? x = some port) : x ≤ 3 := by
  refine Nat.not_lt.mp fun hx => ?_
  rw [portOfNat?_eq_none hx] at h
  cases h

theorem orderPutVerb_form (tag : Option Tag) {args : List Arg} (p : Part)
    (h : ∀ i x f l t policy resort pol r, args = [.num i, .num x, .num f, .num l, .num t, .word policy, .word resort] →
      ¬ (findWord policyWords policy = some pol ∧ findWord answerWords resort = some r)) :
    orderPutVerb tag args p = refuse 111 tag p := by
  unfold orderPutVerb
  split
  case h_1 i x f l t policy resort =>
    split
    case h_1 pol r hpol hr => exact absurd ⟨hpol, hr⟩ (h _ _ _ _ _ _ _ _ _ rfl)
    case h_2 => rfl
  case h_2 => rfl

section OrderPut

variable {i x f l t : Nat} {policy resort : Text} {pol : Policy} {r : Bool} (tag : Option Tag) (p : Part)
  (hpol : findWord policyWords policy = some pol) (hr : findWord answerWords resort = some r)

include hpol hr

/-- ORDER PUT with a port: 112 for the other ranges, 122, the replacement of entry i, 123, or the new entry n + 1. -/
theorem orderPutVerb_port {port : Port} (hx : Port.ofNat? x = some port) :
    orderPutVerb tag [.num i, .num x, .num f, .num l, .num t, .word policy, .word resort] p =
      if i < 1 ∨ 13 < i ∨ 7 < f ∨ 7 < l ∨ t < 1 ∨ 15 < t ∨ l < f then refuse 112 tag p
      else if p.sst.settings.order.length + 1 < i then refuse 122 tag p
      else if i ≤ p.sst.settings.order.length then
        replyOk tag (setOrder (p.sst.settings.order.set (i - 1) ⟨port, f, l, t, pol, r⟩) p)
      else if 12 ≤ p.sst.settings.order.length then refuse 123 tag p
      else replyOk tag (setOrder (p.sst.settings.order ++ [⟨port, f, l, t, pol, r⟩]) p) := by
  simp only [orderPutVerb, hpol, hr, hx]
  rfl

theorem orderPutVerb_outOfRange (h : ¬ (1 ≤ i ∧ i ≤ 13 ∧ x ≤ 3 ∧ f ≤ l ∧ l ≤ 7 ∧ 1 ≤ t ∧ t ≤ 15)) :
    orderPutVerb tag [.num i, .num x, .num f, .num l, .num t, .word policy, .word resort] p = refuse 112 tag p := by
  cases hx : Port.ofNat? x with
  | none => simp [orderPutVerb, hpol, hr, hx]
  | some port =>
    have hx3 := le_three_of_portOfNat? hx
    rw [orderPutVerb_port tag p hpol hr hx, if_pos (by omega)]

end OrderPut

/-! ### ORDER MOVE (R41) -/

theorem orderMoveVerb_form (tag : Option Tag) {args : List Arg} (h : ∀ i j, args ≠ [.num i, .num j]) (p : Part) :
    orderMoveVerb tag args p = refuse 111 tag p := by
  unfold orderMoveVerb
  split
  case h_1 i j => exact absurd rfl (h i j)
  case h_2 => rfl

theorem orderMoveVerb_indexes (tag : Option Tag) (i j : Nat) (p : Part) :
    orderMoveVerb tag [.num i, .num j] p =
      if i < 1 ∨ 12 < i ∨ j < 1 ∨ 12 < j then refuse 112 tag p
      else if p.sst.settings.order.length < i ∨ p.sst.settings.order.length < j then refuse 122 tag p
      else replyOk tag (setOrder (moveEntry p.sst.settings.order i j) p) := rfl

/-- Inserting within a list or at its end, by the two parts of the list. -/
theorem insertIdx_eq_take_drop {α : Type} (l : List α) (a : α) {n : Nat} (h : n ≤ l.length) :
    l.insertIdx n a = l.take n ++ a :: l.drop n := by
  obtain ⟨front, back, rfl, rfl, hins⟩ := List.exists_of_modifyTailIdx (List.cons a) h
  simp [List.insertIdx, hins]

/-- Moving an entry to a place in the list takes it out and inserts it there (R41). -/
theorem moveEntry_eq_insertIdx {l : List BootEntry} {e : BootEntry} {i j : Nat} (he : l[i - 1]? = some e)
    (hj : j ≤ l.length) : moveEntry l i j = (l.eraseIdx (i - 1)).insertIdx (j - 1) e := by
  have hi : i - 1 < l.length := (List.getElem?_eq_some_iff.mp he).1
  have hlen : j - 1 ≤ (l.eraseIdx (i - 1)).length := by
    rw [List.length_eraseIdx_of_lt hi]
    omega
  simp only [moveEntry, he, insertIdx_eq_take_drop _ e hlen]

/-- Settles O22, by the judgements of ORDER PUT and ORDER MOVE; an accepted move inserts the entry that it took out. -/
theorem orderPutAndMove : Obligations.OrderPutAndMove := by
  rintro tag args as s order ha ht ⟨b, hm⟩ rfl
  have hput : Yields (.orderPut tag args) s (orderPutVerb tag as s.toPart) :=
    yields_owner (v := .orderPut) rfl ha ht (hm ▸ rfl)
  have hmove : Yields (.orderMove tag args) s (orderMoveVerb tag as s.toPart) :=
    yields_owner (v := .orderMove) rfl ha ht (hm ▸ rfl)
  refine ⟨fun hf => ?_, ?_, fun hf => ?_, ?_⟩
  · rwa [orderPutVerb_form tag _ hf, refuse_quiet ht.1] at hput
  · rintro i x f l t policy resort pol r rfl hpol hr
    refine ⟨fun hrange => ?_, fun port hx h1 h13 hfl hl7 ht1 ht15 => ?_⟩
    · rwa [orderPutVerb_outOfRange tag _ hpol hr hrange, refuse_quiet ht.1] at hput
    rw [orderPutVerb_port tag _ hpol hr hx, if_neg (by omega)] at hput
    refine ⟨fun hn => ?_, fun hi hn => ?_, fun hi hn => ?_, fun hi => ?_⟩
    · rwa [if_pos hn, refuse_quiet ht.1] at hput
    · rwa [if_neg (by omega), if_neg (by omega), if_pos hn, refuse_quiet ht.1] at hput
    · rwa [if_neg (by omega), if_neg (by omega), if_neg (by omega), replyOk_quiet (consoleQuiet_setOrder ht.1 _)] at hput
    · rwa [if_neg (by omega), if_pos hi, replyOk_quiet (consoleQuiet_setOrder ht.1 _)] at hput
  · rwa [orderMoveVerb_form tag hf, refuse_quiet ht.1] at hmove
  · rintro i j rfl
    rw [orderMoveVerb_indexes] at hmove
    refine ⟨fun hrange => ?_, fun hi1 hi12 hj1 hj12 => ⟨fun hn => ?_, fun e he hj => ?_⟩⟩
    · rwa [if_pos (by omega), refuse_quiet ht.1] at hmove
    · rwa [if_neg (by omega), if_pos hn, refuse_quiet ht.1] at hmove
    · have hi : i - 1 < s.sst.settings.order.length := (List.getElem?_eq_some_iff.mp he).1
      rwa [if_neg (by omega), if_neg (by omega), moveEntry_eq_insertIdx he hj,
        replyOk_quiet (consoleQuiet_setOrder ht.1 _)] at hmove

/-! ### The end of a question (R52 to R54) -/

/-- The part after the question of a run: slot and held block emptied, timer stopped, the mode back at the search. -/
def questionEnded (r : SearchRun) (p : Part) : Part :=
  { p with
    sre := { p.sre with question := none, questionTimer := none, run := some { r with held := none } }
    con := { p.con with question := none }
    sup := { p.sup with mode := .auto .search } }

section QuestionEnd

variable {p : Part} {r : SearchRun} {h : HeldBlock} (hr : p.sre.run = some r) (hh : r.held = some h)

include hr

theorem setMode_endQuestion : setMode (.auto .search) (endQuestion p) = questionEnded r p := by
  simp [setMode, endQuestion, setSre, questionEnded, hr]

include hh

theorem questionOutcome_held (o : AttemptOutcome) :
    questionOutcome o p = endAttempt o none h.imageId (questionEnded r p) := by
  simp [questionOutcome, setMode_endQuestion hr, hr, hh]

theorem questionYes_held {e : BootEntry} (he : currentEntry p = some e) :
    questionYes p =
      searchClassified h.block h.capacity (classifyNow h.block h.capacity e.port r.unit true (questionEnded r p))
        (questionEnded r p) := by
  simp [questionYes, setMode_endQuestion hr, hr, hh, he]

end QuestionEnd

/-! ### ANSWER (R53) -/

theorem findWord_answerWords {w : Text} {yes : Bool} (h : findWord answerWords w = some yes) :
    w = if yes then "YES".toList else "NO".toList := by
  simp only [answerWords, findWord] at h
  split at h
  case isTrue hw => obtain rfl := Option.some.inj h; exact hw.symm
  case isFalse =>
    split at h
    case isTrue hw => obtain rfl := Option.some.inj h; exact hw.symm
    case isFalse => cases h

theorem answerVerb_form (tag : Option Tag) {args : List Arg} (p : Part)
    (h : ∀ q, args ≠ [.num q, .word "YES".toList] ∧ args ≠ [.num q, .word "NO".toList]) :
    answerVerb tag args p = refuse 111 tag p := by
  unfold answerVerb
  split
  case h_1 q w =>
    obtain ⟨hyes, hno⟩ := h q
    cases hw : findWord answerWords w with
    | none => rfl
    | some yes =>
      cases yes with
      | true => exact absurd (findWord_answerWords hw ▸ rfl) hyes
      | false => exact absurd (findWord_answerWords hw ▸ rfl) hno
  case h_2 => rfl

/-- ANSWER with its id and word: 112, 413, or "+412" and the end of the question by the word. -/
theorem answerVerb_word (tag : Option Tag) (q : Nat) (yes : Bool) (p : Part) :
    answerVerb tag [.num q, .word (if yes then "YES".toList else "NO".toList)] p =
      if q < 1 ∨ 0xFF < q then refuse 112 tag p
      else if p.sre.question.map Question.id ≠ some q then refuse 413 tag p
      else if yes then questionYes (replyRecord (accepted 412 tag [.num q, .word (if yes then "YES" else "NO")]) p)
      else
        questionOutcome .unknownDeclined
          (replyRecord (accepted 412 tag [.num q, .word (if yes then "YES" else "NO")]) p) := by
  cases yes <;> rfl

theorem questionExpiry_running {p : Part} (h : p.sre.questionTimer ≠ none) :
    questionExpiry p = questionOutcome .unknownTimeout p := by
  simp [questionExpiry, Option.isSome_iff_ne_none.mpr h]

/-- Settles O49: ANSWER and the timer both end the question as `questionEnded` says, and the attempt goes on from there. -/
theorem questionsEndByAnswerOrTimer : Obligations.QuestionsEndByAnswerOrTimer := by
  refine ⟨?_, fun s r h htimer hr hh => ?_⟩
  · rintro tag args as s ha ht ⟨phase, hm⟩
    have hans : Yields (.answer tag args) s (answerVerb tag as s.toPart) :=
      yields_owner (v := .answer) rfl ha ht (hm ▸ rfl)
    refine ⟨fun hf => ?_, ?_⟩
    · rwa [answerVerb_form tag _ hf, refuse_quiet ht.1] at hans
    rintro q yes rfl
    rw [answerVerb_word] at hans
    refine ⟨fun hq => ?_, fun h1 hFF hid => ?_, ?_⟩
    · rwa [if_pos hq, refuse_quiet ht.1] at hans
    · rwa [if_neg (by omega), if_pos hid, refuse_quiet ht.1] at hans
    rintro r h e ended h1 hFF hid hr hh he rfl
    rw [if_neg (by omega), if_neg (not_not_intro hid), replyRecord_quiet ht.1] at hans
    refine ⟨?_, ?_⟩
    · rintro rfl
      rwa [if_neg Bool.false_ne_true, questionOutcome_held (p := answers _ s.toPart) hr hh] at hans
    · rintro rfl
      rwa [if_pos rfl, questionYes_held (p := answers _ s.toPart) hr hh he] at hans
  · have hexp : Yields .questionTimerExpiry s (questionExpiry s.toPart) := rfl
    rwa [questionExpiry_running htimer, questionOutcome_held hr hh] at hexp

end Sys2Proof.Proofs

/-! PROOFS. The memory map: the edits of one region index by MAP PUT and MAP DEL (R68 to R70, R73). -/

namespace Sys2Proof.Proofs

open Sys2Proof Sys2Proof.Machine

/-! ### Attribute keywords (R68 step 1) -/

/-- The word is an attribute keyword whose attribute the region does not have. -/
def Lacks (r : Region) (a : Arg) : Prop :=
  a = .word "LOAD".toList ∧ r.load = false ∨ a = .word "CHECK".toList ∧ r.check = false ∨
    a = .word "PRESERVE".toList ∧ r.preserve = false

/-- The region with the attributes that the words name. -/
def withAttributes (r : Region) (words : List Arg) : Region :=
  { r with
    load := r.load || decide (.word "LOAD".toList ∈ words)
    check := r.check || decide (.word "CHECK".toList ∈ words)
    preserve := r.preserve || decide (.word "PRESERVE".toList ∈ words) }

theorem withAttributes_nil (r : Region) : withAttributes r [] = r := by simp [withAttributes]

theorem withAttributes_cons (r : Region) (a : Arg) (words : List Arg) :
    withAttributes r (a :: words) = withAttributes (withAttributes r [a]) words := by
  simp only [withAttributes, List.mem_cons, List.not_mem_nil, or_false, Bool.decide_or, Bool.or_assoc]

/-- A word once gathered is lacked no more, and gathering it takes no other word away. -/
theorem lacks_withAttributes_singleton {r : Region} {a b : Arg} :
    Lacks (withAttributes r [a]) b ↔ Lacks r b ∧ a ≠ b := by
  simp only [Lacks, withAttributes, List.mem_singleton, Bool.or_eq_false_iff, decide_eq_false_iff_not]
  grind

theorem mapAttributes_cons_of_lacks {r : Region} {a : Arg} (h : Lacks r a) (words : List Arg) :
    mapAttributes r (a :: words) = mapAttributes (withAttributes r [a]) words := by
  obtain ⟨rfl, hr⟩ | ⟨rfl, hr⟩ | ⟨rfl, hr⟩ := h <;> simp [mapAttributes, withAttributes, hr]

theorem mapAttributes_cons_of_not_lacks {r : Region} {a : Arg} (h : ¬ Lacks r a) (words : List Arg) :
    mapAttributes r (a :: words) = none := by
  cases a with
  | num n => rfl
  | word w =>
    simp only [Lacks, Arg.word.injEq, not_or] at h
    obtain ⟨hload, hcheck, hpreserve⟩ := h
    rw [mapAttributes, if_neg hload, if_neg hcheck, if_neg hpreserve]

/-- Different words that the region lacks are all gathered into it. -/
theorem mapAttributes_of_lacks {words : List Arg} {r : Region} (hn : words.Nodup) (h : ∀ a ∈ words, Lacks r a) :
    mapAttributes r words = some (withAttributes r words) := by
  induction words generalizing r with
  | nil => rw [withAttributes_nil, mapAttributes]
  | cons a words ih =>
    obtain ⟨hnew, hn⟩ := List.nodup_cons.mp hn
    obtain ⟨ha, hwords⟩ := List.forall_mem_cons.mp h
    rw [mapAttributes_cons_of_lacks ha, withAttributes_cons r a words]
    exact ih hn fun b hb => lacks_withAttributes_singleton.mpr ⟨hwords b hb, (ne_of_mem_of_not_mem hb hnew).symm⟩

/-- A word that the region does not lack, or one given twice, spoils the list. -/
theorem mapAttributes_eq_none {words : List Arg} {r : Region} (h : ¬ (words.Nodup ∧ ∀ a ∈ words, Lacks r a)) :
    mapAttributes r words = none := by
  induction words generalizing r with
  | nil => simp at h
  | cons a words ih =>
    by_cases ha : Lacks r a
    · rw [mapAttributes_cons_of_lacks ha]
      refine ih fun ⟨hn, hwords⟩ =>
        h ⟨List.nodup_cons.mpr ⟨fun hmem => ?_, hn⟩, List.forall_mem_cons.mpr ⟨ha, fun b hb => ?_⟩⟩
      · exact (lacks_withAttributes_singleton.mp (hwords a hmem)).2 rfl
      · exact (lacks_withAttributes_singleton.mp (hwords b hb)).1
    · exact mapAttributes_cons_of_not_lacks ha words

theorem lacks_plain_iff {base size : Nat} {a : Arg} :
    Lacks ⟨base, size, false, false, false⟩ a ↔
      a = .word "LOAD".toList ∨ a = .word "CHECK".toList ∨ a = .word "PRESERVE".toList := by
  simp only [Lacks, and_true]

/-! ### Regions that share an address (R66, R68 step 4) -/

theorem overlaps_of_holds {r g : Region} {a : Nat} (hr : r.holds a = true) (hg : g.holds a = true) :
    r.overlaps g = true := by
  simp only [Region.holds, Region.overlaps, Bool.and_eq_true, decide_eq_true_eq] at *
  omega

/-- Two overlapping regions of which neither is empty share the higher of their bases. -/
theorem holds_max_base_of_overlaps {r g : Region} (hr : 0 < r.size) (hg : 0 < g.size) (h : r.overlaps g = true) :
    r.holds (max r.base g.base) = true ∧ g.holds (max r.base g.base) = true := by
  simp only [Region.holds, Region.overlaps, Bool.and_eq_true, decide_eq_true_eq] at *
  omega

theorem overlapsOther_iff {map : Eight (Option Region)} {i : Idx} {r : Region} :
    overlapsOther map i r = true ↔ ∃ j g, j ≠ i ∧ map.get j = some g ∧ r.overlaps g = true := by
  have hall : ∀ j, j ∈ Idx.all := by rintro ⟨⟩ <;> decide
  simp [overlapsOther, hall, Option.getD_eq_iff]

theorem overlapsOther_of_holds {map : Eight (Option Region)} {i j : Idx} {r g : Region} {a : Nat} (hj : j ≠ i)
    (hg : map.get j = some g) (hra : r.holds a = true) (hga : g.holds a = true) : overlapsOther map i r = true :=
  overlapsOther_iff.mpr ⟨j, g, hj, hg, overlaps_of_holds hra hga⟩

theorem not_overlapsOther {map : Eight (Option Region)} {i : Idx} {r : Region} (hr : 0 < r.size)
    (hmap : ∀ j g, map.get j = some g → 0 < g.size)
    (hshare : ∀ j g a, j ≠ i → map.get j = some g → ¬ (r.holds a = true ∧ g.holds a = true)) :
    ¬ overlapsOther map i r = true := by
  intro hover
  obtain ⟨j, g, hj, hg, hrg⟩ := overlapsOther_iff.mp hover
  exact hshare j g _ hj hg (holds_max_base_of_overlaps hr (hmap j g hg) hrg)

/-! ### MAP PUT (R68, R69) -/

/-- No index has a number outside 1 to 8 (R66). -/
theorem idxOfNat?_eq_none_iff {i : Nat} : Idx.ofNat? i = none ↔ i < 1 ∨ 8 < i := by
  unfold Idx.ofNat?
  split <;> grind

theorem mapPutVerb_form (tag : Option Tag) {args : List Arg} (p : Part)
    (h : ∀ i base size words, args ≠ .num i :: .num base :: .num size :: words) :
    mapPutVerb tag args p = refuse 111 tag p := by
  unfold mapPutVerb
  split
  case h_1 i base size words => exact absurd rfl (h i base size words)
  case h_2 => rfl

theorem mapPutVerb_attributes {i base size : Nat} {words : List Arg} (tag : Option Tag) (p : Part)
    (h : mapAttributes ⟨base, size, false, false, false⟩ words = none) :
    mapPutVerb tag (.num i :: .num base :: .num size :: words) p = refuse 111 tag p := by
  simp only [mapPutVerb, h]

section MapPut

variable {i base size : Nat} {words : List Arg} {r : Region} (tag : Option Tag) (p : Part)
  (hr : mapAttributes ⟨base, size, false, false, false⟩ words = some r)

include hr

/-- MAP PUT of an index: 112 for base and size, 607, 606, 121, or the region in its place. -/
theorem mapPutVerb_index {idx : Idx} (hi : Idx.ofNat? i = some idx) :
    mapPutVerb tag (.num i :: .num base :: .num size :: words) p =
      if base % 0x1000 ≠ 0 ∨ size = 0 ∨ size % 0x1000 ≠ 0 ∨ 0x100000000 < base + size then refuse 112 tag p
      else if r.load ∧ r.preserve then refuse 607 tag p
      else if overlapsOther p.sst.settings.map idx r then refuse 606 tag p
      else if p.sup.slot ≠ none then refuse 121 tag p
      else editMap idx (some r) (replyOk tag p) := by
  simp only [mapPutVerb, hr, hi, slotHeld, Option.isSome_iff_ne_none, Config.pageBytes, Config.addressEnd]

theorem mapPutVerb_outOfRange
    (h : ¬ (1 ≤ i ∧ i ≤ 8 ∧ base % 0x1000 = 0 ∧ size ≠ 0 ∧ size % 0x1000 = 0 ∧ base + size ≤ 0x100000000)) :
    mapPutVerb tag (.num i :: .num base :: .num size :: words) p = refuse 112 tag p := by
  cases hi : Idx.ofNat? i with
  | none => simp only [mapPutVerb, hr, hi]
  | some idx =>
    have hrange : ¬ (i < 1 ∨ 8 < i) := fun hout => by simp [idxOfNat?_eq_none_iff.mpr hout] at hi
    rw [mapPutVerb_index tag p hr hi, if_pos (by omega)]

end MapPut

/-! ### MAP DEL (R70) -/

theorem mapDelVerb_form (tag : Option Tag) {args : List Arg} (h : ∀ i, args ≠ [.num i]) (p : Part) :
    mapDelVerb tag args p = refuse 111 tag p := by
  unfold mapDelVerb
  split
  case h_1 i => exact absurd rfl (h i)
  case h_2 => rfl

theorem mapDelVerb_outOfRange {i : Nat} (tag : Option Tag) (h : i < 1 ∨ 8 < i) (p : Part) :
    mapDelVerb tag [.num i] p = refuse 112 tag p := by
  simp only [mapDelVerb, idxOfNat?_eq_none_iff.mpr h]

theorem mapDelVerb_index {i : Nat} {idx : Idx} (tag : Option Tag) (hi : Idx.ofNat? i = some idx) (p : Part) :
    mapDelVerb tag [.num i] p =
      if p.sst.settings.map.get idx = none then refuse 122 tag p
      else if p.sup.slot ≠ none then refuse 121 tag p
      else replyOk tag (editMap idx none p) := by
  simp only [mapDelVerb, hi, slotHeld, Option.isNone_iff_eq_none, Option.isSome_iff_ne_none]

theorem consoleQuiet_editMap {p : Part} (h : consoleQuiet p) (idx : Idx) (r : Option Region) :
    consoleQuiet (editMap idx r p) := h

/-- The reply and the edit concern different blocks, so that their order does not show. -/
theorem editMap_answersOk (idx : Idx) (r : Option Region) (tag : Option Tag) (p : Part) :
    editMap idx r (answersOk tag p) = answersOk tag (editMap idx r p) := rfl

/-- Settles O23: the attribute words either gather into the region or give 111, and then each verb judges in order. -/
theorem mapEditsOneIndex : Obligations.MapEditsOneIndex := by
  intro tag args as s ha ht ⟨phase, hm⟩
  have hput : Yields (.mapPut tag args) s (mapPutVerb tag as s.toPart) :=
    yields_owner (v := .mapPut) rfl ha ht (hm ▸ rfl)
  have hdel : Yields (.mapDel tag args) s (mapDelVerb tag as s.toPart) :=
    yields_owner (v := .mapDel) rfl ha ht (hm ▸ rfl)
  refine ⟨?_, fun hf => ?_, fun hf => ?_, ?_⟩
  · rintro i base size words rfl
    simp only [← lacks_plain_iff (base := base) (size := size)]
    refine ⟨fun hbad => ?_, fun hn hwords r hr => ?_⟩
    · rwa [mapPutVerb_attributes tag _ (mapAttributes_eq_none hbad), refuse_quiet ht.1] at hput
    have hattr := (mapAttributes_of_lacks hn hwords).trans (congrArg some hr.symm)
    refine ⟨fun hrange => ?_, fun idx hi hbase hsize hsize' hend => ?_⟩
    · rwa [mapPutVerb_outOfRange tag _ hattr hrange, refuse_quiet ht.1] at hput
    rw [mapPutVerb_index tag _ hattr hi, if_neg (by omega)] at hput
    refine ⟨fun hload hpreserve => ?_, fun hattrs => ⟨?_, fun hmap hshare => ?_⟩⟩
    · rwa [if_pos ⟨hload, hpreserve⟩, refuse_quiet ht.1] at hput
    · rintro ⟨j, g, hj, hg, a, hra, hga⟩
      rwa [if_neg hattrs, if_pos (overlapsOther_of_holds hj hg hra hga), refuse_quiet ht.1] at hput
    have hapart := not_overlapsOther (by rw [hr]; exact Nat.pos_of_ne_zero hsize) hmap hshare
    rw [if_neg hattrs, if_neg hapart] at hput
    refine ⟨fun hheld => ?_, fun hfree => ?_⟩
    · rwa [if_pos hheld, refuse_quiet ht.1] at hput
    · rwa [if_neg (not_not_intro hfree), replyOk_quiet ht.1, editMap_answersOk] at hput
  · rwa [mapPutVerb_form tag _ hf, refuse_quiet ht.1] at hput
  · rwa [mapDelVerb_form tag hf, refuse_quiet ht.1] at hdel
  · rintro i rfl
    refine ⟨fun hi => ?_, fun idx hi => ?_⟩
    · rwa [mapDelVerb_outOfRange tag hi, refuse_quiet ht.1] at hdel
    rw [mapDelVerb_index tag hi] at hdel
    refine ⟨fun hnone => ?_, fun hsome => ⟨fun hheld => ?_, fun hfree => ?_⟩⟩
    · rwa [if_pos hnone, refuse_quiet ht.1] at hdel
    · rwa [if_neg hsome, if_pos hheld, refuse_quiet ht.1] at hdel
    · rwa [if_neg hsome, if_neg (not_not_intro hfree), replyOk_quiet (consoleQuiet_editMap ht.1 _ _)] at hdel

end Sys2Proof.Proofs

/-! PROOFS. The start-up supervisor: the break (R145, R175) and ABORT (R148). -/

namespace Sys2Proof.Proofs

open Sys2Proof Sys2Proof.Machine

/-! ### A break at the console's receiver (R175) -/

theorem consoleBreak_waiting {p : Part} (h : p.con.waitMarking = true) : consoleBreak p = p := if_pos h

theorem consoleBreak_marking {p : Part} (h : p.con.waitMarking = false) :
    consoleBreak p = takeBreak { p with con := { p.con with line := ⟨[], .nothing⟩, waitMarking := true } } :=
  if_neg (by simp [h])

/-! ### A break at the supervisor (R145) -/

theorem takeBreak_restartPending {p : Part} (h : p.sup.restartPending = true) : takeBreak p = p := if_pos h

section TakeBreak

variable {p : Part} (hp : p.sup.restartPending = false)

include hp

theorem takeBreak_init (hm : p.sup.mode = .init) :
    takeBreak p = { p with sup := { p.sup with breakFlag := true } } := by
  simp [takeBreak, hp, hm]

/-- AUTO and MANUAL BUSY have an operation to abort. -/
theorem takeBreak_operation (hm : (∃ phase, p.sup.mode = .auto phase) ∨ ∃ v, p.sup.mode = .manual (some v)) :
    takeBreak p = abortOperation p := by
  obtain ⟨phase, hm⟩ | ⟨v, hm⟩ := hm
  · simp [takeBreak, hp, hm]
  · simp [takeBreak, hp, hm]

theorem takeBreak_ignored
    (hm : p.sup.mode = .manual none ∨ (∃ phase, p.sup.mode = .targetRun phase) ∨ ∃ r, p.sup.mode = .halted r) :
    takeBreak p = p := by
  obtain hm | ⟨phase, hm⟩ | ⟨r, hm⟩ := hm
  · simp [takeBreak, hp, hm]
  · simp [takeBreak, hp, hm]
  · simp [takeBreak, hp, hm]

end TakeBreak

/-- Settles O10: the receiver discards the partial line and waits for marking, and the supervisor then takes the break. -/
theorem breakActsByMode : Obligations.BreakActsByMode := by
  intro s p hpart
  have hsup : p.sup = s.sup := by rw [hpart]
  have hbreak : Yields .lineBreak s (consoleBreak s.toPart) := rfl
  refine ⟨fun hw => ?_, fun hw => ?_⟩
  · rwa [consoleBreak_waiting hw] at hbreak
  rw [consoleBreak_marking hw, ← hpart] at hbreak
  rw [← hsup]
  refine ⟨fun hp => ?_, fun hp => ⟨fun hm => ?_, fun hm => ?_, fun hm => ?_⟩⟩
  · rwa [takeBreak_restartPending hp] at hbreak
  · rwa [takeBreak_init hp hm] at hbreak
  · rwa [takeBreak_operation hp hm] at hbreak
  · rwa [takeBreak_ignored hp hm] at hbreak

/-! ### ABORT (R148) -/

theorem admits_abort_iff {m : Mode} : admits .abort m = true ↔ (∃ phase, m = .auto phase) ∨ ∃ v, m = .manual (some v) := by
  cases m with
  | manual busy => cases busy <;> simp [admits]
  | _ => simp [admits]

/-- The modes in which ABORT finds no operation do not admit it. -/
theorem admits_abort_eq_false {m : Mode}
    (h : m = .manual none ∨ (∃ phase, m = .targetRun phase) ∨ ∃ r, m = .halted r) : admits .abort m = false := by
  obtain rfl | ⟨phase, rfl⟩ | ⟨r, rfl⟩ := h <;> rfl

theorem abortVerb_nil (tag : Option Tag) (p : Part) : abortVerb tag [] p = abortOperation (replyOk tag p) := rfl

theorem abortVerb_args (tag : Option Tag) {args : List Arg} (h : args ≠ []) (p : Part) :
    abortVerb tag args p = refuse 111 tag p := by
  cases args with
  | nil => exact absurd rfl h
  | cons a as => rfl

theorem ne_init_of_admits {v : Verb} {m : Mode} (h : admits v m = true) : m ≠ .init := by
  rintro rfl
  cases h

/-- Settles O11: where the mode admits ABORT its owner judges the argument, and elsewhere the supervisor refuses it. -/
theorem abortIsABreakWithAReply : Obligations.AbortIsABreakWithAReply := by
  refine fun tag args as s ha hq => ⟨fun hp hm => ?_, fun hm => ?_⟩
  · have hadm : admits .abort s.sup.mode = true := admits_abort_iff.mpr hm
    have h : Yields (.abort tag args) s (abortVerb tag as s.toPart) :=
      yields_owner (v := .abort) rfl ha ⟨hq, ne_init_of_admits hadm, hp⟩ hadm
    refine ⟨?_, fun hne => ?_⟩
    · rintro rfl
      rwa [abortVerb_nil, replyOk_quiet hq] at h
    · rwa [abortVerb_args tag hne, refuse_quiet hq] at h
  · have h := yields_takeConsole (c := .abort tag args) rfl ha hq
    have hrefused : s.sup.mode = .init ∨ s.sup.restartPending = true ∨
        (Verb.abort ≠ .go ∧ admits .abort s.sup.mode = false) := by
      obtain hp | hi | hm := hm
      · exact .inr (.inl hp)
      · exact .inl hi
      · exact .inr (.inr ⟨nofun, admits_abort_eq_false hm⟩)
    rwa [takeConsole_refused hrefused, refuse_quiet hq] at h

end Sys2Proof.Proofs

/-! PROOFS. The record line unit: the complete line that 0D ends and its line queue (R171 to R174). -/

namespace Sys2Proof.Proofs

open Sys2Proof Sys2Proof.Machine

/-! ### The complete line at 0D (R171) -/

theorem completedLine_blank {l : Partial} (hm : l.mark = .nothing) (hb : ∀ c ∈ l.kept, c = ' ') :
    completedLine l = none := by
  simpa [completedLine, hm] using hb

theorem completedLine_text {l : Partial} (hm : l.mark = .nothing) (ht : ∃ c ∈ l.kept, c ≠ ' ') :
    completedLine l = some (.text l.kept) := by
  simpa [completedLine, hm] using ht

theorem completedLine_bad {l : Partial} (hm : l.mark = .bad) : completedLine l = some .bad := by
  simp [completedLine, hm]

theorem completedLine_tooLong {l : Partial} (hm : l.mark = .tooLong) : completedLine l = some .tooLong := by
  simp [completedLine, hm]

theorem buildLine_return (l : Partial) : buildLine 0x0D l = (emptyPartial, completedLine l) := rfl

/-! ### The console's line queue (R172, R173) -/

section Console

variable {p : Part} {q : QueuedLine}

theorem receiveConsole_return_none (hw : p.con.waitMarking = false) (hc : completedLine p.con.line = none) :
    receiveConsole 0x0D p = setConsoleLine emptyPartial p := by
  simp only [receiveConsole, hw, buildLine_return, hc, Bool.false_eq_true, if_false]

theorem receiveConsole_return_some (hw : p.con.waitMarking = false)
    (hc : completedLine p.con.line = some q) :
    receiveConsole 0x0D p = offerConsole q (setConsoleLine emptyPartial p) := by
  simp only [receiveConsole, hw, buildLine_return, hc, Bool.false_eq_true, if_false]

variable (q)

theorem pumpConsole_single (hl : p.con.lines = [q]) (hr : p.con.replies = []) :
    pumpConsole p = takeConsoleLine q { p with con := { p.con with lines := [] } } := by
  simp [pumpConsole, takeConsoleLines, hl, hr]

/-- A reply that waits keeps the lines waiting (R173). -/
theorem pumpConsole_of_replies (hr : p.con.replies ≠ []) : pumpConsole p = p := by
  cases hl : p.con.lines <;> simp [pumpConsole, takeConsoleLines, hl, hr]

theorem offerConsole_quiet (h : consoleQuiet p) : offerConsole q p = takeConsoleLine q p := by
  obtain ⟨hl, hr⟩ := h
  have hroom : p.con.lines.length < Config.lineCapacity := by simp [hl, Config.lineCapacity]
  rw [offerConsole, if_pos hroom]
  refine Eq.trans (pumpConsole_single q (by simp [hl]) hr) ?_
  rw [← hl]

theorem offerConsole_waits (hl : p.con.lines.length < 2) (hr : p.con.replies ≠ []) :
    offerConsole q p = { p with con := { p.con with lines := p.con.lines ++ [q] } } :=
  (if_pos hl).trans (pumpConsole_of_replies hr)

theorem offerConsole_full (hl : 2 ≤ p.con.lines.length) : offerConsole q p = raise 105 none [] p :=
  if_neg (Nat.not_lt.mpr hl)

end Console

/-! ### The target line's queue (R172, R174) -/

section Target

variable {p : Part} {q : QueuedLine}

theorem receiveTarget_return_none (ho : p.tgt.isOpen = true) (hw : p.tgt.waitMarking = false)
    (hc : completedLine p.tgt.line = none) : receiveTarget 0x0D p = setTargetLine emptyPartial p := by
  simp only [receiveTarget, ho, hw, buildLine_return, hc, Bool.true_eq_false, Bool.false_eq_true, or_self, if_false]

theorem receiveTarget_return_some (ho : p.tgt.isOpen = true) (hw : p.tgt.waitMarking = false)
    (hc : completedLine p.tgt.line = some q) :
    receiveTarget 0x0D p = offerTarget q (setTargetLine emptyPartial p) := by
  simp only [receiveTarget, ho, hw, buildLine_return, hc, Bool.true_eq_false, Bool.false_eq_true, or_self, if_false]

theorem targetTakes_of_empty {t : Target} (ho : t.isOpen = true) (ha : t.accepting = true) (hq : t.queue = []) :
    targetTakes t = true := by
  simp [targetTakes, ho, ha, hq]

/-- A reply that waits, or an RLU that does not accept, keeps the lines waiting (R174). -/
theorem targetTakes_eq_false {t : Target} (h : (∃ i ∈ t.queue, i.record.form ≠ .notice) ∨ t.accepting = false) :
    targetTakes t = false := by
  obtain ⟨i, hi, hf⟩ | ha := h
  · have hall : (t.queue.all fun i => i.record.form = .notice) = false := List.all_eq_false.mpr ⟨i, hi, by simpa using hf⟩
    simp [targetTakes, hall]
  · simp [targetTakes, ha]

variable (q)

theorem pumpTarget_single (hl : p.tgt.lines = [q]) (h : targetTakes p.tgt = true) :
    pumpTarget p = takeTargetLine q { p with tgt := { p.tgt with lines := [] } } := by
  simp [pumpTarget, takeTargetLines, hl, h]

theorem pumpTarget_of_not_takes (h : targetTakes p.tgt = false) : pumpTarget p = p := by
  cases hl : p.tgt.lines <;> simp [pumpTarget, takeTargetLines, hl, h]

theorem offerTarget_taken (h : targetTaken p) : offerTarget q p = takeTargetLine q p := by
  obtain ⟨ho, ha, hl, hq⟩ := h
  have hroom : p.tgt.lines.length < Config.lineCapacity := by simp [hl, Config.lineCapacity]
  rw [offerTarget, if_pos hroom]
  refine Eq.trans (pumpTarget_single q (by simp [hl]) (targetTakes_of_empty ho ha hq)) ?_
  rw [← hl]

theorem offerTarget_waits (hl : p.tgt.lines.length < 2)
    (h : (∃ i ∈ p.tgt.queue, i.record.form ≠ .notice) ∨ p.tgt.accepting = false) :
    offerTarget q p = { p with tgt := { p.tgt with lines := p.tgt.lines ++ [q] } } :=
  (if_pos hl).trans (pumpTarget_of_not_takes (targetTakes_eq_false h))

theorem offerTarget_full (hl : 2 ≤ p.tgt.lines.length) : offerTarget q p = raise 106 none [] p :=
  if_neg (Nat.not_lt.mpr hl)

end Target

/-- Settles O9: the mark and the kept characters give the complete line; the lines and replies that wait ahead of it decide
whether it is taken, waits or is discarded. -/
theorem completedLinesAreOffered : Obligations.CompletedLinesAreOffered := by
  intro s q line hline
  have hc : completedLine line = q := by
    obtain ⟨hm, hb, rfl⟩ | ⟨hm, ht, rfl⟩ | ⟨hm, rfl⟩ | ⟨hm, rfl⟩ := hline
    · exact completedLine_blank hm hb
    · exact completedLine_text hm ht
    · exact completedLine_bad hm
    · exact completedLine_tooLong hm
  constructor
  · rintro p rfl hw hp
    obtain rfl : p = setConsoleLine emptyPartial s.toPart := hp
    have h : Yields (.receivedByte .console 0x0D) s (receiveConsole 0x0D s.toPart) := rfl
    constructor
    · rintro rfl
      rwa [receiveConsole_return_none hw hc] at h
    · rintro x rfl
      rw [receiveConsole_return_some hw hc] at h
      refine ⟨fun hq => ?_, fun hl hr => ?_, fun hl => ?_⟩
      · rwa [offerConsole_quiet (p := setConsoleLine emptyPartial s.toPart) x hq] at h
      · rwa [offerConsole_waits (p := setConsoleLine emptyPartial s.toPart) x hl hr] at h
      · rwa [offerConsole_full (p := setConsoleLine emptyPartial s.toPart) x hl] at h
  · rintro p rfl ho hw hp
    obtain rfl : p = setTargetLine emptyPartial s.toPart := hp
    have h : Yields (.receivedByte .target 0x0D) s (receiveTarget 0x0D s.toPart) := rfl
    constructor
    · rintro rfl
      rwa [receiveTarget_return_none ho hw hc] at h
    · rintro x rfl
      rw [receiveTarget_return_some ho hw hc] at h
      refine ⟨fun ht => ?_, fun hl hr => ?_, fun hl => ?_⟩
      · rwa [offerTarget_taken (p := setTargetLine emptyPartial s.toPart) x ht] at h
      · rwa [offerTarget_waits (p := setTargetLine emptyPartial s.toPart) x hl hr] at h
      · rwa [offerTarget_full (p := setTargetLine emptyPartial s.toPart) x hl] at h

end Sys2Proof.Proofs

/-! PROOFS. The shape of a step: what each command does to the part (R173, R174), and the packaging of a condition that every
step keeps. -/

namespace Sys2Proof.Proofs

open Sys2Proof Sys2Proof.Machine

/-! ### What a command does to the part -/

/-- The operations on the part that commands are: one for each event, and one for each form of a line. -/
inductive Effect : (Part → Part) → Prop
  | powerReset (cause : ResetCause) : Effect (takePowerReset cause)
  | settle : Effect settle
  | initExpiry : Effect initExpiry
  | answerExchange (kind : PortKind) (result : PortOp → Option ExchangeResult) (port : Port) :
      Effect (answerExchange kind result port)
  | linkBytes (port : Port) (bytes : List Byte) : Effect (linkBytes port bytes)
  | exchangeExpiry (port : Port) : Effect (exchangeExpiry port)
  | linkSent (port : Port) : Effect (linkSent port)
  | senseLevel (port : Port) (card : Bool) : Effect (senseLevel port card)
  | cardIn (port : Port) : Effect (cardIn port)
  | cardOut (port : Port) : Effect (cardOut port)
  | questionExpiry : Effect questionExpiry
  | waitExpiry : Effect waitExpiry
  | windowExpiry : Effect windowExpiry
  | busResponse (mrdy merr : Bool) (word : Word32) : Effect (busResponse mrdy merr word)
  | responseExpiry : Effect responseExpiry
  | writeEnded (e : WriteEnd) : Effect (writeEnded e)
  | saveExpiry : Effect saveExpiry
  | receive (l : Line) (b : Byte) : Effect (receive l b)
  | frameError (l : Line) : Effect (frameError l)
  | consoleBreak : Effect consoleBreak
  | markingAgain (l : Line) : Effect (markingAgain l)
  | targetSpacing : Effect targetSpacing
  | consoleSent : Effect consoleSent
  | targetSent : Effect targetSent
  | consoleLine (q : QueuedLine) : Effect (arriveConsole (takeConsoleLine q) q)
  | targetLine (q : QueuedLine) : Effect (arriveTarget (takeTargetLine q) q)
  | consoleWords (x : Parsed) (q : QueuedLine) : Effect (arriveConsole (followConsole x) q)
  | targetWords (x : Parsed) (q : QueuedLine) : Effect (arriveTarget (followTarget x) q)

/-- A verb command of the console is its line taken or offered there. -/
theorem exec_of_consoleVerb {c : Instr} {v : Verb} {tag : Option Tag} {args : List Text}
    (h : c.verb? = some (.console, v, tag, args)) (s : State) : exec c s = s.on (consoleVerb v tag args) := by
  cases c with
  | stat l t a =>
    cases l with
    | console => cases h; rfl
    | target => cases h
  | _ => cases h <;> rfl

/-- A verb command of the target line is its line taken or offered there. -/
theorem exec_of_targetVerb {c : Instr} {v : Verb} {tag : Option Tag} {args : List Text}
    (h : c.verb? = some (.target, v, tag, args)) (s : State) : exec c s = s.on (targetVerb v tag args) := by
  cases c with
  | stat l t a =>
    cases l with
    | console => cases h
    | target => cases h; rfl
  | _ => cases h <;> rfl

/-- Every command is one of the effects. -/
theorem exec_effect (c : Instr) (s : State) : ∃ f, Effect f ∧ exec c s = s.on f := by
  cases hv : c.verb? with
  | some x =>
    obtain ⟨l, v, tag, args⟩ := x
    cases l with
    | console => exact ⟨_, .consoleWords _ _, exec_of_consoleVerb hv s⟩
    | target => exact ⟨_, .targetWords _ _, exec_of_targetVerb hv s⟩
  | none =>
    cases c with
    | powerOn => exact ⟨_, .powerReset _, rfl⟩
    | pinReset => exact ⟨_, .powerReset _, rfl⟩
    | settingsSettled => exact ⟨_, .settle, rfl⟩
    | initTimerExpiry => exact ⟨_, .initExpiry, rfl⟩
    | flashExchangeEnd port a => exact ⟨_, .answerExchange _ _ port, rfl⟩
    | cardExchangeEnd port a => exact ⟨_, .answerExchange _ _ port, rfl⟩
    | blockExchangeEnd port a => exact ⟨_, .answerExchange _ _ port, rfl⟩
    | linkAnswerFrame port bytes => exact ⟨_, .linkBytes port bytes, rfl⟩
    | exchangeTimeout port => exact ⟨_, .exchangeExpiry port, rfl⟩
    | linkRequestSent port => exact ⟨_, .linkSent port, rfl⟩
    | cardSenseChange port card => exact ⟨_, .senseLevel port card, rfl⟩
    | cardInserted port => exact ⟨_, .cardIn port, rfl⟩
    | cardRemoved port => exact ⟨_, .cardOut port, rfl⟩
    | questionTimerExpiry => exact ⟨_, .questionExpiry, rfl⟩
    | roundWaitExpiry => exact ⟨_, .waitExpiry, rfl⟩
    | windowExpiry => exact ⟨_, .windowExpiry, rfl⟩
    | memoryResponse mrdy merr word => exact ⟨_, .busResponse mrdy merr word, rfl⟩
    | responseTimeout => exact ⟨_, .responseExpiry, rfl⟩
    | saveWriteEnd e => exact ⟨_, .writeEnded e, rfl⟩
    | saveTimerExpiry => exact ⟨_, .saveExpiry, rfl⟩
    | receivedByte l b => exact ⟨_, .receive l b, rfl⟩
    | framingError l => exact ⟨_, .frameError l, rfl⟩
    | lineBreak => exact ⟨_, .consoleBreak, rfl⟩
    | returnToMarking l => exact ⟨_, .markingAgain l, rfl⟩
    | targetLineSpacingHeld => exact ⟨_, .targetSpacing, rfl⟩
    | consoleRecordSent => exact ⟨_, .consoleSent, rfl⟩
    | targetRecordSent => exact ⟨_, .targetSent, rfl⟩
    | badLine l =>
      cases l with
      | console => exact ⟨_, .consoleLine .bad, rfl⟩
      | target => exact ⟨_, .targetLine .bad, rfl⟩
    | lineTooLong l =>
      cases l with
      | console => exact ⟨_, .consoleLine .tooLong, rfl⟩
      | target => exact ⟨_, .targetLine .tooLong, rfl⟩
    | unknownVerb l tag ws =>
      cases l with
      | console => exact ⟨_, .consoleWords _ _, rfl⟩
      | target => exact ⟨_, .targetWords _ _, rfl⟩
    | malformedTag l rest ws =>
      cases l with
      | console => exact ⟨_, .consoleWords _ _, rfl⟩
      | target => exact ⟨_, .targetWords _ _, rfl⟩
    | _ => cases hv

theorem step_idle {s : State} (h : s.pending = []) : step s = .next s := by simp only [step, h]

theorem step_front {s : State} {c : Instr} {rest : List Instr} (h : s.pending = c :: rest) :
    step s = exec c { s with pending := rest } := by simp only [step, h]

/-- A condition that every effect keeps is kept by every step; an idle step changes nothing. -/
theorem keptByEveryStep_of_effect {inv : Part → Prop} (h : ∀ f, Effect f → ∀ p, inv p → inv (f p)) :
    KeptByEveryStep inv := by
  intro s t hs hstep
  cases hp : s.pending with
  | nil =>
    rw [step_idle hp] at hstep
    cases hstep
    exact hs
  | cons c rest =>
    obtain ⟨f, hf, he⟩ := exec_effect c { s with pending := rest }
    rw [step_front hp, he, on_eq] at hstep
    cases hstep
    exact h f hf _ hs

/-- Settles O1: the first case of `step`. -/
theorem stepRunsTheFrontCommand : Obligations.StepRunsTheFrontCommand := fun _ _ _ => rfl

/-- Settles O2: every command is an effect on the part alone. -/
theorem everyCommandGoesOn : Obligations.EveryCommandGoesOn := by
  intro c s
  obtain ⟨f, -, he⟩ := exec_effect c s
  exact ⟨f s.toPart, he⟩

end Sys2Proof.Proofs

/-! PROOFS. Conditions on the console, the target line, the settings store and the lists: what the runs of the part (search, load,
check, verbs, ports) do to these blocks, said once for every such condition. -/

namespace Sys2Proof.Proofs

open Sys2Proof Sys2Proof.Machine

/-! ### The blocks that the conditions look at -/

/-- An update that leaves the lines, the settings store, the lists and the settling as they were, does not go back to INIT, and
begins no verb whose single reply is still to come. -/
structure Framed (p q : Part) : Prop where
  con : q.con = p.con
  tgt : q.tgt = p.tgt
  sst : q.sst = p.sst
  log : q.sre.log = p.sre.log
  nextSeq : q.sre.nextSeq = p.sre.nextSeq
  spent : q.sre.spent = p.sre.spent
  releaseCount : q.sre.releaseCount = p.sre.releaseCount
  defects : q.mck.defects = p.mck.defects
  dropped : q.mck.dropped = p.mck.dropped
  settled : q.sup.settled = p.sup.settled
  mode : q.sup.mode = p.sup.mode ∨ q.sup.mode ≠ .init
  defers : defersReply q.sup.verbRun = true → defersReply p.sup.verbRun = true

theorem framed_spc (p : Part) (x : Spc) : Framed p { p with spc := x } :=
  ⟨rfl, rfl, rfl, rfl, rfl, rfl, rfl, rfl, rfl, rfl, .inl rfl, id⟩

theorem framed_mmp (p : Part) (x : Mmp) : Framed p { p with mmp := x } :=
  ⟨rfl, rfl, rfl, rfl, rfl, rfl, rfl, rfl, rfl, rfl, .inl rfl, id⟩

theorem framed_ldr (p : Part) (x : Ldr) : Framed p { p with ldr := x } :=
  ⟨rfl, rfl, rfl, rfl, rfl, rfl, rfl, rfl, rfl, rfl, .inl rfl, id⟩

theorem framed_rlu (p : Part) (x : Rlu) : Framed p { p with rlu := x } :=
  ⟨rfl, rfl, rfl, rfl, rfl, rfl, rfl, rfl, rfl, rfl, .inl rfl, id⟩

theorem framed_checkRun (p : Part) (r : Option CheckRun) : Framed p { p with mck := { p.mck with run := r } } :=
  ⟨rfl, rfl, rfl, rfl, rfl, rfl, rfl, rfl, rfl, rfl, .inl rfl, id⟩

theorem framed_sup (p : Part) {x : Sup} (hs : x.settled = p.sup.settled) (hm : x.mode = p.sup.mode ∨ x.mode ≠ .init)
    (hd : defersReply x.verbRun = true → defersReply p.sup.verbRun = true) : Framed p { p with sup := x } :=
  ⟨rfl, rfl, rfl, rfl, rfl, rfl, rfl, rfl, rfl, hs, hm, hd⟩

/-- An update of the search engine that leaves its lists and counts. -/
theorem framed_sre (p : Part) {x : Sre} (hl : x.log = p.sre.log) (hn : x.nextSeq = p.sre.nextSeq)
    (hs : x.spent = p.sre.spent) (hc : x.releaseCount = p.sre.releaseCount) : Framed p { p with sre := x } :=
  ⟨rfl, rfl, rfl, hl, hn, hs, hc, rfl, rfl, rfl, .inl rfl, id⟩

/-- A condition that the parts of a run keep: frames, notices, records, questions, the reply that ends a verb, the defect list,
a release and its end. -/
structure KeptByRuns (P : Part → Prop) : Prop where
  frame {p q : Part} : Framed p q → P p → P q
  raise {p : Part} (code : Nat) (tag : Option Tag) (fs : List Field) : P p → P (raise code tag fs p)
  appendRecord {p : Part} (tag : Option Tag) (f : AttemptFields) (o : AttemptOutcome) (d : Option Nat) (i : Option Word32) :
    P p → P (appendRecord tag f o d i p)
  handQuestion {p : Part} (q : Question) : P p → P (handQuestion q p)
  dropQuestion {p : Part} : P p → P { p with con := { p.con with question := none } }
  replyIdle {p : Part} (i : ConsoleItem) : defersReply p.sup.verbRun = true → P p → P (goIdle (reply i p))
  recordDefect {p : Part} (d : Defect) : P p → P (recordDefect d p)
  noDefects {p : Part} (r : Option CheckRun) : P p → P { p with mck := { run := r, defects := [], dropped := 0 } }
  release {p : Part} (kind : ReleaseKind) (tag : Option Tag) : P p → P (release kind tag p)
  holdTarget {p : Part} : P p → P (holdTarget p)
  addSpent {p : Part} (k : CandidateKey) : P p → P (addSpent k p)

/-! ### Results given at once -/

theorem kept_follow {P : Part → Prop} {α : Type} {x : Part × Option α} {f : α → Part → Part} (hx : P x.1) (hf : ∀ a, P (f a x.1)) :
    P (follow x f) := by
  unfold follow
  split
  · exact hx
  · exact hf _

theorem kept_followTo {P : Part → Prop} {α β : Type} {x : Part × Option α} {f : α → Part → Part × Option β} (hx : P x.1)
    (hf : ∀ a, P (f a x.1).1) : P (followTo x f).1 := by
  unfold followTo
  split
  · exact hx
  · exact hf _

/-! ### A port request leaves the supervisor as it was -/

theorem requestProbe_sup (port : Port) (u : Nat) (rq : Requester) (p : Part) : (requestProbe port u rq p).1.sup = p.sup := by
  unfold requestProbe
  split
  · rfl
  · split
    · rfl
    · split
      · rfl
      · split <;> rfl

theorem requestRead_sup (port : Port) (u block : Nat) (rq : Requester) (p : Part) :
    (requestRead port u block rq p).1.sup = p.sup := by
  unfold requestRead
  split
  · rfl
  · split <;> rfl

theorem clearFault_sup (port : Port) (p : Part) : (clearFault port p).sup = p.sup := by
  unfold clearFault
  split
  · rfl
  · split <;> rfl

section Runs

variable {P : Part → Prop} (h : KeptByRuns P) {p : Part}

include h

/-! ### Shared operations -/

theorem kept_goIdle (hp : P p) : P (goIdle p) := h.frame (framed_sup p rfl (.inr nofun) nofun) hp

theorem kept_setMode {m : Mode} (hm : m ≠ .init) (hp : P p) : P (setMode m p) :=
  h.frame (framed_sup p rfl (.inr hm) id) hp

theorem kept_enterHalted (r : HaltReason) (hp : P p) : P (enterHalted r p) := by
  have hs : Framed p { p with
      sup := { p.sup with mode := .halted r, slot := none, runTag := none, abortPending := false, verbRun := none }
      rlu := { p.rlu with treset := .asserted } } :=
    ⟨rfl, rfl, rfl, rfl, rfl, rfl, rfl, rfl, rfl, rfl, .inr nofun, nofun⟩
  exact h.raise _ _ _ (h.frame hs hp)

theorem kept_setHealth (i : Idx) (x : Health) (hp : P p) : P (setHealth i x p) := h.frame (framed_mmp p _) hp

theorem kept_defectiveAt (a : Nat) (hp : P p) : P (defectiveAt a p) := by
  unfold defectiveAt
  split
  · exact kept_setHealth h _ _ hp
  · exact hp

theorem kept_endTxn (hp : P p) : P (endTxn p) := h.frame (framed_mmp p _) hp

theorem kept_requestTxn (kind : TxnKind) (a : Nat) (rq : TxnRequester) (hp : P p) : P (requestTxn kind a rq p).1 := by
  obtain ⟨-, he⟩ | ⟨r, -, he⟩ := requestTxn_cases kind a rq p
  · rw [he]
    exact h.frame (framed_mmp p _) hp
  · rw [he]
    exact hp

/-! ### Source ports -/

theorem kept_setEntry (port : Port) (e : PortEntry) (hp : P p) : P (setEntry port e p) := h.frame (framed_spc p _) hp

theorem kept_withdraw (hp : P p) : P (withdraw p) := h.frame (framed_spc p _) hp

theorem kept_clearFault (port : Port) (hp : P p) : P (clearFault port p) := by
  unfold clearFault
  split
  · exact hp
  · split
    · exact h.raise _ _ _ (kept_setEntry h _ _ hp)
    · exact hp

theorem kept_clearFaults (hp : P p) : P (clearFaults p) := by
  unfold clearFaults
  exact kept_clearFault h _ (kept_clearFault h _ (kept_clearFault h _ (kept_clearFault h _ hp)))

theorem kept_requestProbe (port : Port) (u : Nat) (rq : Requester) (hp : P p) : P (requestProbe port u rq p).1 := by
  unfold requestProbe
  split
  · exact hp
  · split
    · exact hp
    · split
      · exact hp
      · split
        · exact kept_setEntry h _ _ hp
        · exact kept_setEntry h _ _ hp

theorem kept_requestRead (port : Port) (u block : Nat) (rq : Requester) (hp : P p) : P (requestRead port u block rq p).1 := by
  unfold requestRead
  split
  · exact hp
  · split
    · exact hp
    · exact kept_setEntry h _ _ hp

theorem kept_finishExchange (port : Port) (e : PortEntry) (f : InFlight) (r : ExchangeResult) (hp : P p) :
    P (finishExchange port e f r p).1 := by
  have hend : ∀ (c : Prop) [Decidable c] (e' : PortEntry) (fs : List Field),
      P (if c then Machine.raise 203 none fs (setEntry port (endOperation e') p) else setEntry port (endOperation e') p) := by
    intro c _ e' fs
    split
    · exact h.raise _ _ _ (kept_setEntry h _ _ hp)
    · exact kept_setEntry h _ _ hp
  unfold finishExchange
  dsimp only
  split
  · exact hend _ _ _
  · split
    · exact hend _ _ _
    · exact kept_setEntry h _ _ hp

/-! ### Memory check -/

theorem kept_setCheck (r : CheckRun) (hp : P p) : P (setCheck r p) := h.frame (framed_checkRun p _) hp

theorem kept_discardForCheck (hp : P p) : P (discardForCheck p) := by
  unfold discardForCheck
  split
  · exact h.frame (framed_ldr p _) hp
  · exact h.frame (framed_ldr p _) hp
  · exact hp

theorem kept_issueCheck (r : CheckRun) (hp : P p) : P (issueCheck r p) := by
  unfold issueCheck
  split
  · exact kept_requestTxn h _ _ _ (kept_setCheck h _ hp)
  · refine kept_requestTxn h _ _ _ (kept_setCheck h _ ?_)
    split
    · exact hp
    · exact kept_discardForCheck h hp

theorem kept_beginRegion (i : Idx) (r : CheckRun) (hp : P p) : P (beginRegion i r p) := by
  unfold beginRegion
  split
  · exact kept_setCheck h _ hp
  · exact kept_issueCheck h _ hp

theorem kept_beginPass (n : Nat) (r : CheckRun) (hp : P p) : P (beginPass n r p) := by
  unfold beginPass
  split
  · exact kept_setCheck h _ hp
  · exact kept_beginRegion h _ _ hp

theorem kept_beginCheck (origin : CheckOrigin) (tag : Option Tag) (asked : CheckKind) (regions : List Idx) (passes : Nat)
    (stop : Bool) (scope : List Field) (hp : P p) : P (beginCheck origin tag asked regions passes stop scope p) :=
  kept_beginPass h _ _ (h.raise _ _ _ (h.noDefects _ hp))

theorem kept_endPass (r : CheckRun) (hp : P p) : P (endPass r p).1 := by
  have hn := h.raise 501 r.tag [.num r.pass, .num (defectTotal (setCheck r p).mck)] (kept_setCheck h r hp)
  unfold endPass
  split
  · exact hn
  · exact kept_beginPass h _ _ hn

theorem kept_advanceCheck (r : CheckRun) (hp : P p) : P (advanceCheck r p).1 := by
  unfold advanceCheck
  dsimp only
  split
  · exact kept_setCheck h _ hp
  · split
    · exact kept_issueCheck h _ hp
    · split
      · exact kept_issueCheck h _ hp
      · have hr : ∀ r, P (endRegion r p) := fun r => kept_setHealth h _ _ hp
        split
        · exact kept_beginRegion h _ _ (hr _)
        · exact kept_endPass h _ (hr _)

theorem kept_checkOutcome (o : TxnOutcome) (r : CheckRun) (hp : P p) : P (checkOutcome o r p).1 := by
  unfold checkOutcome
  split
  · exact kept_advanceCheck h _ hp
  · exact kept_issueCheck h _ hp
  · dsimp only
    split
    · exact h.raise _ _ _ (kept_setHealth h _ _ (kept_setCheck h _ (h.recordDefect _ hp)))
    · exact kept_advanceCheck h _ (h.recordDefect _ hp)

theorem kept_checkAbortOutcome (o : TxnOutcome) (r : CheckRun) (hp : P p) : P (checkAbortOutcome o r p) := by
  unfold checkAbortOutcome
  split
  · exact kept_setCheck h _ (h.recordDefect _ hp)
  · exact hp

theorem kept_endAbortedCheck (r : CheckRun) (hp : P p) : P (endAbortedCheck r p) := by
  unfold endAbortedCheck
  refine h.frame (framed_checkRun _ none) (h.raise _ _ _ ?_)
  split
  · exact kept_setHealth h _ _ hp
  · exact hp

/-! ### Load -/

theorem kept_setLdr (f : Ldr → Ldr) (hp : P p) : P (setLdr f p) := h.frame (framed_ldr p _) hp

theorem kept_failLoad (plan : LoadPlan) (o : AttemptOutcome) (d : Nat) (hp : P p) : P (failLoad plan o d p).1 :=
  h.raise _ _ _ (h.appendRecord _ _ _ _ _ hp)

theorem kept_completeLoad (plan : LoadPlan) (hp : P p) : P (completeLoad plan p).1 := by
  have hr := h.appendRecord plan.tag plan.fields .loaded none (some plan.image.imageId)
    (kept_setLdr h (fun l => { l with image := .staged, plan := some { plan with cursor := none } }) hp)
  unfold completeLoad
  dsimp only
  split
  · exact h.raise _ _ _ hr
  · exact hr

theorem kept_abortLoad (plan : LoadPlan) (hp : P p) : P (abortLoad plan p) :=
  h.raise _ _ _ (h.appendRecord _ _ _ _ _ hp)

theorem kept_loadTxn (kind : TxnKind) (plan : LoadPlan) (c : LoadCursor) (hp : P p) : P (loadTxn kind plan c p).1 :=
  have hr := kept_requestTxn h kind c.address .loader (kept_setLdr h _ hp)
  kept_followTo hr fun _ => kept_failLoad h _ _ _ hr

theorem kept_beginHandoff (plan : LoadPlan) (hp : P p) : P (beginHandoff plan p).1 := by
  unfold beginHandoff
  split
  · exact kept_completeLoad h _ hp
  · exact kept_loadTxn h _ _ _ hp

theorem kept_verifyFrom (k : Nat) (plan : LoadPlan) (hp : P p) : P (verifyFrom k plan p).1 := by
  unfold verifyFrom
  split
  · exact kept_beginHandoff h _ hp
  · exact kept_loadTxn h _ _ _ hp

theorem kept_loaderRead (r : ReadResult) (plan : LoadPlan) (c : LoadCursor) (s : Segment) (hp : P p) :
    P (loaderRead r plan c s p).1 := by
  cases r with
  | data bytes => exact kept_loadTxn h _ _ _ hp
  | _ => exact kept_failLoad h _ _ _ hp

theorem kept_loadBlock (plan : LoadPlan) (c : LoadCursor) (s : Segment) (hp : P p) : P (loadBlock plan c s p).1 :=
  have hr := kept_requestRead h plan.image.port plan.image.unit c.block .loader (kept_setLdr h _ hp)
  kept_followTo hr fun _ => kept_loaderRead h _ _ _ _ hr

theorem kept_writeSegment (k : Nat) (plan : LoadPlan) (hp : P p) : P (writeSegment k plan p).1 := by
  unfold writeSegment
  split
  · split
    · exact kept_verifyFrom h _ _ hp
    · exact kept_beginHandoff h _ hp
  · dsimp only
    split
    · exact kept_loadTxn h _ _ _ hp
    · exact kept_loadBlock h _ _ _ hp

theorem kept_beginLoad (image : Image) (fields : AttemptFields) (reason : BootReason) (rq : LoadRequester)
    (tag : Option Tag) (hp : P p) : P (beginLoad image fields reason rq tag p).1 :=
  kept_writeSegment h _ _ (h.raise _ _ _ (h.frame (framed_ldr p _) hp))

theorem kept_endDataSegment (plan : LoadPlan) (c : LoadCursor) (s : Segment) (hp : P p) :
    P (endDataSegment plan c s p).1 := by
  unfold endDataSegment
  dsimp only
  split
  · exact kept_writeSegment h _ _ hp
  · exact kept_failLoad h _ _ _ (kept_setLdr h _ hp)

theorem kept_writeDone (plan : LoadPlan) (c : LoadCursor) (s : Segment) (hp : P p) : P (writeDone plan c s p).1 := by
  unfold writeDone
  dsimp only
  split
  · split
    · exact kept_loadTxn h _ _ _ hp
    · exact kept_writeSegment h _ _ hp
  · split
    · exact kept_endDataSegment h _ _ _ hp
    · split
      · exact kept_loadBlock h _ _ _ hp
      · exact kept_loadTxn h _ _ _ hp

theorem kept_verifyDone (plan : LoadPlan) (c : LoadCursor) (s : Segment) (w : Word32) (hp : P p) :
    P (verifyDone plan c s w p).1 := by
  unfold verifyDone
  dsimp only
  split
  · exact kept_loadTxn h _ _ _ hp
  · split
    · exact kept_verifyFrom h _ _ hp
    · exact kept_failLoad h _ _ _ (kept_defectiveAt h _ (kept_setLdr h _ hp))

theorem kept_handoffDone (plan : LoadPlan) (c : LoadCursor) (hp : P p) : P (handoffDone plan c p).1 := by
  unfold handoffDone
  dsimp only
  split
  · exact kept_completeLoad h _ (kept_setLdr h _ hp)
  · exact kept_loadTxn h _ _ _ hp

theorem kept_loaderOutcome (o : TxnOutcome) (plan : LoadPlan) (c : LoadCursor) (hp : P p) :
    P (loaderOutcome o plan c p).1 := by
  unfold loaderOutcome
  split
  · split
    · exact kept_handoffDone h _ _ hp
    · exact kept_writeDone h _ _ _ hp
    · exact kept_verifyDone h _ _ _ _ hp
    · exact hp
  · exact kept_failLoad h _ _ _ (kept_defectiveAt h _ hp)

theorem kept_loaderAbortOutcome (o : TxnOutcome) (a : Nat) (hp : P p) : P (loaderAbortOutcome o a p) := by
  unfold loaderAbortOutcome
  split
  · exact hp
  · exact kept_defectiveAt h _ hp

/-! ### Search -/

theorem kept_setRun (f : SearchRun → SearchRun) (hp : P p) : P (setRun f p) :=
  h.frame (framed_sre p rfl rfl rfl rfl) hp

theorem kept_endRun (hp : P p) : P (endRun p) := h.frame (framed_sre p rfl rfl rfl rfl) hp

theorem kept_appendRunRecord (o : AttemptOutcome) (d : Option Nat) (i : Option Word32) (hp : P p) :
    P (appendRunRecord o d i p) := h.appendRecord _ _ _ _ _ hp

theorem kept_startAttempt (port : Port) (unit : Nat) (hp : P p) : P (startAttempt port unit p).1 := by
  have hs := kept_setMode h (m := .auto .search) nofun (kept_setRun h (fun r => { r with stage := .probing }) hp)
  unfold startAttempt
  dsimp only
  split
  · exact hs
  · split
    · exact hs
    · have hr := kept_requestProbe h port unit .search hs
      refine kept_followTo hr fun r => ?_
      split
      · exact hr
      · exact hr

theorem kept_countTry (hp : P p) : P (countTry p) := kept_setRun h _ hp

theorem kept_tryUnit (x : Position) (n : Nat) (hp : P p) : P (tryUnit x n p).1 := by
  induction n generalizing p with
  | zero => exact hp
  | succ n ih =>
    have ha := kept_startAttempt h x.spec.port x.unit hp
    unfold tryUnit
    dsimp only
    split
    · exact ha
    · have hc := fun o => kept_countTry h (kept_appendRunRecord h o none none ha)
      split
      · exact ih (hc _)
      · exact hc _

theorem kept_walk (xs : List Position) (hp : P p) : P (walk xs p).1 := by
  induction xs generalizing p with
  | nil => exact hp
  | cons x xs ih =>
    have ht := kept_tryUnit h x x.spec.tries (kept_setRun h _ hp : P (moveTo x p))
    unfold walk
    dsimp only
    split
    · exact ht
    · exact ih ht

theorem kept_endRound (hp : P p) : P (endRound p) := by
  unfold endRound
  split
  · exact hp
  · rename_i r _
    have hn := h.raise 301 r.tag [.num r.round] hp
    dsimp only
    split
    · exact kept_goIdle h (kept_endRun h (h.raise _ _ _ hn))
    · exact kept_setMode h nofun (h.frame (framed_sre _ rfl rfl rfl rfl) hn)

theorem kept_walkOn (xs : List Position) (hp : P p) : P (walkOn xs p) := by
  have hw := kept_walk h xs hp
  unfold walkOn
  dsimp only
  split
  · exact hw
  · exact kept_endRound h hw

theorem kept_beginRound (n : Nat) (hp : P p) : P (beginRound n p) := by
  unfold beginRound
  exact kept_walkOn h _ (kept_clearFaults h (kept_setMode h nofun (h.frame (framed_sre p rfl rfl rfl rfl) hp)))

theorem kept_beginRun (origin : Origin) (tag : Option Tag) (hp : P p) : P (beginRun origin tag p) := by
  unfold beginRun
  refine kept_beginRound h _ (h.raise _ _ _ (h.frame ?_ hp))
  exact ⟨rfl, rfl, rfl, rfl, rfl, rfl, rfl, rfl, rfl, rfl, .inr nofun, nofun⟩

theorem kept_endRoundWait (hp : P p) : P (endRoundWait p) := by
  unfold endRoundWait
  split
  · exact hp
  · exact kept_beginRound h _ hp

theorem kept_afterAttempt (o : AttemptOutcome) (hp : P p) : P (afterAttempt o p) := by
  unfold afterAttempt
  split
  · dsimp only
    split
    · have ht := fun x n => kept_tryUnit h x n hp
      split
      · exact ht _ _
      · exact kept_walkOn h _ (kept_setMode h nofun (ht _ _))
    · exact kept_walkOn h _ (kept_setMode h nofun hp)
  · exact hp

theorem kept_endAttempt (o : AttemptOutcome) (d : Option Nat) (i : Option Word32) (hp : P p) : P (endAttempt o d i p) :=
  kept_afterAttempt h _ (kept_countTry h (kept_appendRunRecord h _ _ _ hp))

theorem kept_searchLoadEnd (e : LoadEnd) (hp : P p) : P (searchLoadEnd e p) := by
  cases e with
  | loaded => exact kept_endRun h (h.release _ _ hp)
  | failed o d => exact kept_afterAttempt h _ (kept_countTry h hp)
  | aborted => exact hp

theorem kept_searchCandidate (image : Image) (hp : P p) : P (searchCandidate image p) := by
  unfold searchCandidate
  split
  · exact kept_endAttempt h _ _ _ hp
  · split
    · exact kept_enterHalted h _ (kept_endRun h (kept_appendRunRecord h _ _ _ hp))
    · split
      · exact hp
      · have hl := fun fields reason tag => kept_beginLoad h image fields reason .search tag
          (kept_setMode h (m := .auto .load) nofun (kept_setRun h (fun r => { r with stage := .loading }) hp))
        exact kept_follow (hl _ _ _) fun e => kept_searchLoadEnd h e (hl _ _ _)

theorem kept_raiseQuestion (port : Port) (unit : Nat) (held : HeldBlock) (hp : P p) : P (raiseQuestion port unit held p) := by
  unfold raiseQuestion
  exact kept_setMode h nofun (h.handQuestion _ (h.frame (framed_sre p rfl rfl rfl rfl) hp))

theorem kept_endQuestion (hp : P p) : P (endQuestion p) :=
  h.dropQuestion (h.frame (framed_sre p rfl rfl rfl rfl) hp)

theorem kept_withdrawQuestion (hp : P p) : P (withdrawQuestion p) := by
  unfold withdrawQuestion
  split
  · exact hp
  · exact h.raise _ _ _ (kept_endQuestion h hp)

theorem kept_searchClassified (block : List Byte) (capacity : Nat) (c : Classification) (hp : P p) :
    P (searchClassified block capacity c p) := by
  unfold searchClassified
  split
  · exact kept_searchCandidate h _ hp
  · split
    · exact kept_raiseQuestion h _ _ _ hp
    · exact kept_endAttempt h _ _ _ hp
  · exact kept_endAttempt h _ _ _ hp

theorem kept_searchBlock0 (capacity : Nat) (r : ReadResult) (hp : P p) : P (searchBlock0 capacity r p) := by
  unfold searchBlock0
  split
  · exact kept_endAttempt h _ _ _ hp
  · split
    · exact kept_searchClassified h _ _ _ hp
    · exact hp

theorem kept_searchProbe (r : ProbeResult) (hp : P p) : P (searchProbe r p) := by
  unfold searchProbe
  split
  · exact kept_endAttempt h _ _ _ hp
  · split
    · have hr := fun port unit c => kept_requestRead h port unit 0 .search (kept_setRun h (fun r => { r with stage := .block0 c }) hp)
      exact kept_follow (hr _ _ _) fun _ => kept_searchBlock0 h _ _ (hr _ _ _)
    · exact hp

theorem kept_searchResult (r : OpResult) (hp : P p) : P (searchResult r p) := by
  unfold searchResult
  split
  · exact kept_searchProbe h _ hp
  · exact kept_searchBlock0 h _ _ hp
  · exact hp

theorem kept_questionOutcome (o : AttemptOutcome) (hp : P p) : P (questionOutcome o p) :=
  kept_endAttempt h _ _ _ (kept_setMode h nofun (kept_endQuestion h hp))

theorem kept_questionYes (hp : P p) : P (questionYes p) := by
  have hq := kept_endQuestion h hp
  unfold questionYes
  split
  · exact kept_searchClassified h _ _ _ (kept_setMode h nofun hq)
  · exact hq

theorem kept_abortRun (hp : P p) : P (abortRun p) := by
  unfold abortRun
  split
  · exact hp
  · refine kept_endRun h ?_
    split
    · exact kept_appendRunRecord h _ _ _ (kept_withdraw h hp)
    · exact kept_appendRunRecord h _ _ _ (kept_withdraw h hp)
    · exact kept_appendRunRecord h _ _ _ (kept_withdrawQuestion h hp)
    · split
      · exact kept_abortLoad h _ (kept_withdraw h hp)
      · exact hp
    · exact hp

/-! ### Verbs that hold the slot -/

theorem kept_setVerbRun {v : VerbRun} (hv : defersReply (some v) = true → defersReply p.sup.verbRun = true) (hp : P p) :
    P (setVerbRun v p) := h.frame (framed_sup p rfl (.inl rfl) hv) hp

theorem kept_endStart (tag : Option Tag) (port : Port) (unit : Nat) (o : AttemptOutcome) (d : Option Nat)
    (i : Option Word32) (hp : P p) : P (endStart tag port unit o d i p) :=
  kept_goIdle h (h.raise _ _ _ (h.appendRecord _ _ _ _ _ hp))

theorem kept_startLoadEnd (boot : Bool) (tag : Option Tag) (e : LoadEnd) (hp : P p) : P (startLoadEnd boot tag e p) := by
  unfold startLoadEnd
  split
  · exact h.release _ _ hp
  · exact kept_goIdle h hp

theorem kept_startCandidate (boot : Bool) (tag : Option Tag) (port : Port) (unit : Nat) (raw : Bool) (image : Image)
    (hp : P p) : P (startCandidate boot tag port unit raw image p) := by
  unfold startCandidate
  split
  · exact kept_goIdle h (h.raise _ _ _ (h.appendRecord _ _ _ _ _ hp))
  · have hl := fun fields reason rq => kept_beginLoad h image fields reason rq tag
      (kept_setVerbRun h (v := .start boot tag port unit raw .loading) nofun hp)
    exact kept_follow (hl _ _ _) fun e => kept_startLoadEnd h _ _ _ (hl _ _ _)

theorem kept_startBlock0 (boot : Bool) (tag : Option Tag) (port : Port) (unit : Nat) (raw : Bool) (capacity : Nat)
    (r : ReadResult) (hp : P p) : P (startBlock0 boot tag port unit raw capacity r p) := by
  unfold startBlock0
  split
  · exact kept_endStart h _ _ _ _ _ _ hp
  · dsimp only
    split
    · exact kept_startCandidate h _ _ _ _ _ _ hp
    · exact kept_endStart h _ _ _ _ _ _ hp

theorem kept_startProbe (boot : Bool) (tag : Option Tag) (port : Port) (unit : Nat) (raw : Bool) (r : ProbeResult)
    (hp : P p) : P (startProbe boot tag port unit raw r p) := by
  unfold startProbe
  split
  · exact kept_endStart h _ _ _ _ _ _ hp
  · have hr := fun c => kept_requestRead h port unit 0 .manualStart
      (kept_setVerbRun h (v := .start boot tag port unit raw (.block0 c)) nofun hp)
    exact kept_follow (hr _) fun _ => kept_startBlock0 h _ _ _ _ _ _ _ (hr _)

theorem kept_beginStart (boot : Bool) (tag : Option Tag) (port : Port) (unit : Nat) (raw : Bool) (hp : P p) :
    P (beginStart boot tag port unit raw p) := by
  unfold beginStart
  split
  · exact kept_endStart h _ _ _ _ _ _ hp
  · split
    · exact kept_endStart h _ _ _ _ _ _ hp
    · have hr := kept_requestProbe h port unit .manualStart hp
      exact kept_follow hr fun _ => kept_startProbe h _ _ _ _ _ _ hr

theorem kept_abortStart (tag : Option Tag) (port : Port) (unit : Nat) (hp : P p) : P (abortStart tag port unit p) :=
  h.raise _ _ _ (h.appendRecord _ _ _ _ _ (kept_withdraw h hp))

section Deferred

variable (hd : defersReply p.sup.verbRun = true)

include hd

theorem kept_endProbe (tag : Option Tag) (port : Port) (unit : Nat) (r : ProbeResult) (hp : P p) :
    P (endProbe tag port unit r p) := h.replyIdle _ hd hp

theorem kept_endVolume (tag : Option Tag) (lines : List (List Field)) (hp : P p) : P (endVolume tag lines p) :=
  h.replyIdle _ hd hp

theorem kept_volumeRead (tag : Option Tag) (port : Port) (unit capacity : Nat) (r : ReadResult) (hp : P p) :
    P (volumeRead tag port unit capacity r p) := by
  cases r <;> exact kept_endVolume h hd _ _ hp

theorem kept_endPeek (tag : Option Tag) (words : List (Nat × PeekWord)) (hp : P p) : P (endPeek tag words p) :=
  h.replyIdle _ hd hp

theorem kept_endPoke (tag : Option Tag) (o : TxnOutcome) (hp : P p) : P (endPoke tag o p) := by
  cases o <;> exact h.replyIdle _ hd hp

theorem kept_volumeProbe (tag : Option Tag) (port : Port) (unit : Nat) (r : ProbeResult) (hp : P p) :
    P (volumeProbe tag port unit r p) := by
  cases r with
  | ready c =>
    have hr := kept_requestRead h port unit 0 .volumeVerb
      (kept_setVerbRun h (v := .volume tag port unit (some c)) (fun _ => hd) hp)
    exact kept_follow hr fun _ => kept_volumeRead h (by rw [requestRead_sup]; rfl) _ _ _ _ _ hr
  | _ => exact kept_endVolume h hd _ _ hp

theorem kept_beginVolume (tag : Option Tag) (port : Port) (unit : Nat) (hp : P p) : P (beginVolume tag port unit p) :=
  have hr := kept_requestProbe h port unit .volumeVerb hp
  kept_follow hr fun _ => kept_volumeProbe h (by rw [requestProbe_sup]; exact hd) _ _ _ _ hr

theorem kept_beginProbe (tag : Option Tag) (port : Port) (unit : Nat) (hp : P p) : P (beginProbe tag port unit p) := by
  have hc := kept_clearFault h port hp
  have hs := (clearFault_sup port p).symm ▸ hd
  unfold beginProbe
  dsimp only
  split
  · rename_i e _
    have hr := kept_requestProbe h port unit .probeVerb (kept_setEntry h port { e with count := 0 } hc)
    exact kept_follow hr fun _ => kept_endProbe h (by rw [requestProbe_sup]; exact hs) _ _ _ _ hr
  · have hr := kept_requestProbe h port unit .probeVerb hc
    exact kept_follow hr fun _ => kept_endProbe h (by rw [requestProbe_sup]; exact hs) _ _ _ _ hr

theorem kept_beginPoke (tag : Option Tag) (a v : Nat) (hp : P p) : P (beginPoke tag a v p) := by
  unfold beginPoke
  obtain ⟨-, he⟩ | ⟨r, -, he⟩ := requestTxn_cases (.write (BitVec.ofNat 32 v)) a .poke p
  · rw [he]
    exact h.frame (framed_mmp p _) hp
  · rw [he]
    exact h.replyIdle _ hd hp

end Deferred

theorem kept_peekFrom (tag : Option Tag) (n : Nat) {a : Nat} {words : List (Nat × PeekWord)}
    (hd : defersReply p.sup.verbRun = true) (hp : P p) : P (peekFrom tag a words n p) := by
  induction n generalizing a words p with
  | zero => exact kept_endPeek h hd _ _ hp
  | succ n ih =>
    have hv := kept_setVerbRun h (v := .peek tag a (n + 1) words) (fun _ => hd) hp
    unfold peekFrom
    obtain ⟨-, he⟩ | ⟨r, -, he⟩ := requestTxn_cases .read a .peek (setVerbRun (.peek tag a (n + 1) words) p)
    · rw [he]
      exact h.frame (framed_mmp _ _) hv
    · rw [he]
      exact ih rfl hv

theorem kept_verbResult (r : OpResult) (hp : P p) : P (verbResult r p) := by
  unfold verbResult
  split
  · exact kept_endProbe h (by simp [*, defersReply]) _ _ _ _ hp
  · exact kept_volumeProbe h (by simp [*, defersReply]) _ _ _ _ hp
  · exact kept_volumeRead h (by simp [*, defersReply]) _ _ _ _ _ hp
  · exact kept_startProbe h _ _ _ _ _ _ hp
  · exact kept_startBlock0 h _ _ _ _ _ _ _ hp
  · exact hp

/-! ### Supervisor -/

theorem kept_endCheck (hp : P p) : P (endCheck p) := by
  unfold endCheck
  split
  · exact hp
  · have hn := h.frame (framed_checkRun p none) hp
    split
    · exact kept_goIdle h hn
    · dsimp only
      split
      · exact kept_enterHalted h _ hn
      · exact kept_beginRun h _ _ hn

theorem kept_followCheck {x : Part × CheckCourse} (hx : P x.1) : P (followCheck x) := by
  unfold followCheck
  split
  · exact hx
  · exact kept_endCheck h hx
  · unfold completeCheck
    split
    · exact hx
    · exact kept_endCheck h (h.raise _ _ _ hx)

theorem kept_followLoad {plan : LoadPlan} {x : Part × Option LoadEnd} (hx : P x.1) : P (followLoad plan x) := by
  refine kept_follow hx fun e => ?_
  unfold deliverLoadEnd
  split
  · exact kept_searchLoadEnd h _ hx
  · exact kept_startLoadEnd h _ _ _ hx
  · exact kept_startLoadEnd h _ _ _ hx

theorem kept_loaderResult (r : OpResult) (hp : P p) : P (loaderResult r p) := by
  unfold loaderResult
  split
  · split
    · exact hp
    · split
      · exact hp
      · exact kept_followLoad h (kept_loaderRead h _ _ _ _ hp)
  · exact hp

theorem kept_deliver (d : Requester × OpResult) (hp : P p) : P (deliver d p) := by
  unfold deliver
  split
  · exact kept_searchResult h _ hp
  · exact kept_loaderResult h _ hp
  · exact kept_verbResult h _ hp
  · exact kept_verbResult h _ hp
  · exact kept_verbResult h _ hp

theorem kept_exchangeEnded (port : Port) (e : PortEntry) (f : InFlight) (r : ExchangeResult) (hp : P p) :
    P (exchangeEnded port e f r p) :=
  have hf := kept_finishExchange h port e f r hp
  kept_follow hf fun d => kept_deliver h d hf

theorem kept_endAbort (hp : P p) : P (endAbort p) := by
  have hi := kept_goIdle h (h.frame (framed_rlu p { p.rlu with treset := .asserted }) hp)
  unfold endAbort
  dsimp only
  split
  · exact h.raise _ _ _ hi
  · exact hi

/-- The reply that an aborted verb gives, with the end of the abort. -/
theorem kept_endAbort_reply (i : ConsoleItem) (hd : defersReply p.sup.verbRun = true) (hp : P p) :
    P (endAbort (reply i p)) := by
  have hi : P (goIdle { reply i p with rlu := { p.rlu with treset := .asserted } }) :=
    h.replyIdle (p := { p with rlu := { p.rlu with treset := .asserted } }) i hd (h.frame (framed_rlu p _) hp)
  unfold endAbort
  dsimp only
  split
  · exact h.raise _ _ _ hi
  · exact hi

theorem kept_endAbort_owner (hp : P p) : P (endAbort (abortOwner p)) := by
  unfold abortOwner
  split
  · exact kept_endAbort h (kept_endAbortedCheck h _ hp)
  · exact kept_endAbort h (kept_abortRun h hp)
  · exact kept_endAbort_reply h _ (by simp [*, defersReply]) (kept_withdraw h hp)
  · exact kept_endAbort_reply h _ (by simp [*, defersReply]) (kept_withdraw h hp)
  · exact kept_endAbort_reply h _ (by simp [*, defersReply]) hp
  · split
    · exact kept_endAbort h (kept_abortLoad h _ (kept_withdraw h hp))
    · exact kept_endAbort h hp
  · exact kept_endAbort h (kept_abortStart h _ _ _ hp)
  · exact kept_endAbort h hp
  · exact kept_endAbort h hp

theorem kept_abortOperation (hp : P p) : P (abortOperation p) := by
  unfold abortOperation
  split
  · exact h.frame (framed_sup p rfl (.inl rfl) id) hp
  · exact kept_endAbort_owner h hp

theorem kept_takeBreak (hp : P p) : P (takeBreak p) := by
  unfold takeBreak
  split
  · exact hp
  · split
    · exact h.frame (framed_sup p rfl (.inl rfl) id) hp
    · exact kept_abortOperation h hp
    · exact kept_abortOperation h hp
    · exact hp

theorem kept_checkerOutcome (o : TxnOutcome) (hp : P p) : P (checkerOutcome o p) := by
  unfold checkerOutcome
  split
  · exact hp
  · split
    · exact kept_endAbort_owner h (kept_checkAbortOutcome h _ _ hp)
    · exact kept_followCheck h (kept_checkOutcome h _ _ hp)

theorem kept_loadOutcome (o : TxnOutcome) (a : Nat) (hp : P p) : P (loadOutcome o a p) := by
  unfold loadOutcome
  split
  · exact kept_endAbort_owner h (kept_loaderAbortOutcome h _ _ hp)
  · split
    · exact hp
    · split
      · exact hp
      · exact kept_followLoad h (kept_loaderOutcome h _ _ _ hp)

theorem kept_peekOutcome (o : TxnOutcome) (hp : P p) : P (peekOutcome o p) := by
  unfold peekOutcome
  split
  · rename_i hv
    have hd : defersReply p.sup.verbRun = true := by rw [hv]; rfl
    dsimp only
    split
    · exact kept_endAbort_owner h (kept_setVerbRun h (fun _ => hd) hp)
    · exact kept_peekFrom h _ _ hd hp
  · exact hp

theorem kept_pokeOutcome (o : TxnOutcome) (hp : P p) : P (pokeOutcome o p) := by
  unfold pokeOutcome
  split
  · exact kept_endPoke h (by simp [*, defersReply]) _ _ hp
  · exact hp

theorem kept_txnEnded (t : Transaction) (o : TxnOutcome) (hp : P p) : P (txnEnded t o p) := by
  have he := kept_endTxn h hp
  unfold txnEnded
  dsimp only
  split
  · exact kept_checkerOutcome h _ he
  · exact kept_loadOutcome h _ _ he
  · exact kept_peekOutcome h _ he
  · exact kept_pokeOutcome h _ he

theorem kept_failWindow (o : AttemptOutcome) (hp : P p) : P (failWindow o p) := by
  unfold failWindow
  split
  · exact hp
  · rename_i r _
    have hd : P (dropReleased (Machine.raise 712 r.tag (r.key.fields ++ [.word o.name]) (Machine.addSpent r.key
        (Machine.appendRecord r.tag r.fields o none (some r.key.imageId) (Machine.holdTarget p))))) :=
      h.frame (framed_rlu _ _) (h.raise _ _ _ (h.addSpent _ (h.appendRecord _ _ _ _ _ (h.holdTarget hp))))
    dsimp only
    split
    · exact kept_beginRun h _ _ hd
    · exact kept_goIdle h hd

/-! ### Events of ports, timers and the memory port -/

theorem kept_answerExchange (kind : PortKind) (result : PortOp → Option ExchangeResult) (port : Port) (hp : P p) :
    P (answerExchange kind result port p) := by
  unfold answerExchange
  split
  · exact hp
  · split
    · exact hp
    · split
      · exact hp
      · split
        · exact hp
        · exact kept_exchangeEnded h _ _ _ _ hp

theorem kept_linkPiece (port : Port) (bytes : List Byte) (hp : P p) : P (linkPiece port p bytes) := by
  unfold linkPiece
  split
  · exact hp
  · split
    · exact hp
    · split
      · exact hp
      · split
        · exact kept_setEntry h _ _ hp
        · exact kept_exchangeEnded h _ _ _ _ hp
        · exact kept_exchangeEnded h _ _ _ _ hp

theorem kept_linkPieces (port : Port) (pieces : List (List Byte)) (hp : P p) : P (pieces.foldl (linkPiece port) p) := by
  induction pieces generalizing p with
  | nil => exact hp
  | cons b bs ih => exact ih (kept_linkPiece h port b hp)

theorem kept_exchangeExpiry (port : Port) (hp : P p) : P (exchangeExpiry port p) := by
  unfold exchangeExpiry
  split
  · exact hp
  · split
    · exact hp
    · split
      · exact kept_exchangeEnded h _ _ _ _ hp
      · exact hp

theorem kept_linkSent (port : Port) (hp : P p) : P (linkSent port p) := by
  unfold linkSent
  split
  · exact hp
  · split
    · exact hp
    · split
      · exact kept_setEntry h _ _ hp
      · exact hp

theorem kept_senseLevel (port : Port) (card : Bool) (hp : P p) : P (senseLevel port card p) := by
  have hs := h.frame (framed_spc p { p.spc with sense := p.spc.sense.set port card }) hp
  unfold senseLevel
  dsimp only
  split
  · exact hs
  · split
    · exact kept_setEntry h _ _ hs
    · exact hs

theorem kept_insertTold (hp : P p) : P (insertTold p) := by
  unfold insertTold
  split
  · exact kept_endRoundWait h hp
  · exact hp

theorem kept_cardIn (port : Port) (hp : P p) : P (cardIn port p) := by
  unfold cardIn
  split
  · exact hp
  · split
    · exact kept_insertTold h (h.raise _ _ _ (kept_setEntry h _ _ hp))
    · exact hp

theorem kept_cardOut (port : Port) (hp : P p) : P (cardOut port p) := by
  unfold cardOut
  split
  · exact hp
  · split
    · have hr := fun e => h.raise 202 none [.num port.num] (kept_setEntry h port e hp)
      dsimp only
      split
      · exact hr _
      · exact kept_deliver h _ (hr _)
    · exact hp

theorem kept_questionExpiry (hp : P p) : P (questionExpiry p) := by
  unfold questionExpiry
  split
  · exact kept_questionOutcome h _ hp
  · exact hp

theorem kept_waitExpiry (hp : P p) : P (waitExpiry p) := by
  unfold waitExpiry
  split
  · exact kept_endRoundWait h hp
  · exact hp

theorem kept_windowExpiry (hp : P p) : P (windowExpiry p) := by
  unfold windowExpiry
  split
  · exact kept_failWindow h _ hp
  · exact hp

theorem kept_busResponse (mrdy merr : Bool) (word : Word32) (hp : P p) : P (busResponse mrdy merr word p) := by
  unfold busResponse
  split
  · exact hp
  · split
    · exact hp
    · exact kept_txnEnded h _ _ hp

theorem kept_responseExpiry (hp : P p) : P (responseExpiry p) := by
  unfold responseExpiry
  split
  · exact hp
  · exact kept_txnEnded h _ _ hp

theorem kept_chooseMode (hp : P p) : P (chooseMode p) := by
  unfold chooseMode
  dsimp only
  split
  · exact kept_goIdle h hp
  · split
    · exact kept_beginCheck h _ _ _ _ _ _ _ (h.frame (framed_sup p rfl (.inr nofun) id) hp)
    · exact kept_beginRun h _ _ hp

theorem kept_endInit (hp : P p) : P (endInit p) := kept_chooseMode h (h.raise _ _ _ hp)

theorem kept_initExpiry (hp : P p) : P (initExpiry p) := by
  have ht := h.frame (framed_sup p (x := { p.sup with initTimer := false }) rfl (.inl rfl) id) hp
  unfold initExpiry
  dsimp only
  split
  · split
    · exact kept_endInit h ht
    · exact ht
  · exact hp

end Runs

end Sys2Proof.Proofs

/-! PROOFS. Conditions on the console, the target line, the settings store and the lists: what the verbs and the line queues do to
these blocks, and with the resets what every step does. -/

namespace Sys2Proof.Proofs

open Sys2Proof Sys2Proof.Machine

/-! ### What the judgement of a setting leaves of the settings' ranges (R38, R66, R154) -/

theorem settingsSound_setNumber {s : Settings} {n : SettingName} {x : Nat} (hs : s.sound = true)
    (hx : settingRange n x = true) : (setNumber s n x).sound = true := by
  cases n <;> simp_all [Settings.sound, setNumber, settingRange]

theorem settingsSound_setKeyword {s t : Settings} {n : SettingName} {w : Text} (hs : s.sound = true)
    (h : setKeyword s n w = some t) : t.sound = true := by
  cases n with
  | autostart | verify | autocheck | checkfail | portKind =>
    obtain ⟨k, -, rfl⟩ := Option.map_eq_some_iff.mp h
    exact hs
  | _ => cases h

theorem settingsSound_judgeSetting {s t : Settings} {n : SettingName} {v : Arg} (h : judgeSetting s n v = .inr t)
    (hs : s.sound = true) : t.sound = true := by
  cases v with
  | num x =>
    simp only [judgeSetting] at h
    split at h
    · split at h
      · rename_i hx
        cases h
        exact settingsSound_setNumber hs hx
      · cases h
    · cases h
  | word w =>
    simp only [judgeSetting] at h
    split at h
    · rename_i hk
      cases h
      exact settingsSound_setKeyword hs hk
    · cases h

theorem settingsSound_order {s : Settings} {l : List BootEntry} (hl : l.length ≤ Config.orderCapacity)
    (he : ∀ e ∈ l, e.sound = true) (hs : s.sound = true) : { s with order := l }.sound = true := by
  simp only [Settings.sound, Bool.and_eq_true, decide_eq_true_eq, List.all_eq_true] at hs ⊢
  obtain ⟨⟨⟨hs, -⟩, -⟩, hm⟩ := hs
  exact ⟨⟨⟨hs, hl⟩, he⟩, hm⟩

theorem settingsSound_map {s : Settings} {m : Eight (Option Region)} (hm : mapSound m = true) (hs : s.sound = true) :
    { s with map := m }.sound = true := by
  simp only [Settings.sound, Bool.and_eq_true, decide_eq_true_eq] at hs ⊢
  exact ⟨hs.1, hm⟩

theorem orderSound {s : Settings} (hs : s.sound = true) :
    s.order.length ≤ Config.orderCapacity ∧ ∀ e ∈ s.order, e.sound = true := by
  simp only [Settings.sound, Bool.and_eq_true, decide_eq_true_eq, List.all_eq_true] at hs
  exact ⟨hs.1.1.2, hs.1.2⟩

theorem mapSound_of_sound {s : Settings} (hs : s.sound = true) : mapSound s.map = true := by
  simp only [Settings.sound, Bool.and_eq_true] at hs
  exact hs.2

theorem mapSound_iff {m : Eight (Option Region)} :
    mapSound m = true ↔ ∀ i r, m.get i = some r → r.sound = true ∧ ¬ overlapsOther m i r = true := by
  have hall : ∀ j, j ∈ Idx.all := by rintro ⟨⟩ <;> decide
  simp only [mapSound, List.all_eq_true]
  refine ⟨fun h i r hr => ?_, fun h i _ => ?_⟩
  · have := h i (hall i)
    simpa [hr] using this
  · cases hr : m.get i with
    | none => rfl
    | some r => simpa using h i r hr

/-- Overlapping is the same in either order. -/
theorem overlaps_comm (r g : Region) : r.overlaps g = g.overlaps r := by
  simp [Region.overlaps, Bool.and_comm]

/-- A sound map with a sound region that overlaps no other put at an index is sound (R68). -/
theorem mapSound_set {m : Eight (Option Region)} {i : Idx} {r : Region} (hm : mapSound m = true) (hr : r.sound = true)
    (ho : ¬ overlapsOther m i r = true) : mapSound (m.set i (some r)) = true := by
  rw [mapSound_iff] at hm ⊢
  rw [overlapsOther_iff] at ho
  intro j g hg
  by_cases hj : j = i
  · subst hj
    rw [Eight.get_set_self] at hg
    cases hg
    refine ⟨hr, fun hov => ?_⟩
    obtain ⟨k, x, hk, hx, hrx⟩ := overlapsOther_iff.mp hov
    rw [Eight.get_set_of_ne _ _ hk] at hx
    exact ho ⟨k, x, hk, hx, hrx⟩
  · rw [Eight.get_set_of_ne _ _ hj] at hg
    obtain ⟨hgs, hgo⟩ := hm j g hg
    refine ⟨hgs, fun hov => ?_⟩
    obtain ⟨k, x, hk, hx, hgx⟩ := overlapsOther_iff.mp hov
    by_cases hki : k = i
    · subst hki
      rw [Eight.get_set_self] at hx
      cases hx
      exact ho ⟨j, g, hj, hg, overlaps_comm g r ▸ hgx⟩
    · rw [Eight.get_set_of_ne _ _ hki] at hx
      exact hgo (overlapsOther_iff.mpr ⟨k, x, hk, hx, hgx⟩)

/-- A sound map with an index emptied is sound (R70). -/
theorem mapSound_clear {m : Eight (Option Region)} (i : Idx) (hm : mapSound m = true) :
    mapSound (m.set i none) = true := by
  rw [mapSound_iff] at hm ⊢
  intro j g hg
  by_cases hj : j = i
  · subst hj
    rw [Eight.get_set_self] at hg
    cases hg
  · rw [Eight.get_set_of_ne _ _ hj] at hg
    obtain ⟨hgs, hgo⟩ := hm j g hg
    refine ⟨hgs, fun hov => ?_⟩
    obtain ⟨k, x, hk, hx, hgx⟩ := overlapsOther_iff.mp hov
    by_cases hki : k = i
    · subst hki
      rw [Eight.get_set_self] at hx
      cases hx
    · rw [Eight.get_set_of_ne _ _ hki] at hx
      exact hgo (overlapsOther_iff.mpr ⟨k, x, hk, hx, hgx⟩)

theorem defaultSettings_sound : defaultSettings.sound = true := by decide

/-- The words LOAD, CHECK and PRESERVE of MAP PUT leave base and size as they were (R68). -/
theorem mapAttributes_base {words : List Arg} {g r : Region} (h : mapAttributes g words = some r) :
    r.base = g.base ∧ r.size = g.size := by
  induction words generalizing g with
  | nil => cases h; exact ⟨rfl, rfl⟩
  | cons a words ih =>
    by_cases ha : Lacks g a
    · rw [mapAttributes_cons_of_lacks ha] at h
      exact ih (g := withAttributes g [a]) h
    · rw [mapAttributes_cons_of_not_lacks ha] at h
      cases h

/-! ### Conditions that the verbs keep -/

/-- A condition that the verbs keep too, each of them begun with no reply waiting: replies, the slot taken, edits of the settings,
SAVE, the rate switch, and the replies of the target line. -/
structure KeptByVerbs (P : Part → Prop) : Prop extends KeptByRuns P where
  reply {p : Part} (i : ConsoleItem) : p.con.replies = [] → P p → P (reply i p)
  takeSlot {p : Part} (v : SlotVerb) (tag : Option Tag) (run : Option VerbRun) :
    p.con.replies = [] → P p → P (takeSlot v tag run p)
  clearSpent {p : Part} : P p → P (clearSpent p)
  settings {p : Part} {s : Settings} (x : Source) : (p.sst.settings.sound = true → s.sound = true) → P p →
    P { p with sst := { p.sst with settings := s, source := x } }
  beginSave {p : Part} (tag : Option Tag) : P p → P (beginSave tag p)
  saveDone {p : Part} {s : Save} : p.sst.saving = some s → P p → P (saveDone s p)
  saveFailed {p : Part} (s : Save) : P p → P (saveFailed s p)
  replyRate {p : Part} (r : Record) : p.con.replies = [] → P p → P (replyRate r p)
  handTarget {p : Part} {i : TargetItem} : i.record.form ≠ .notice → targetTakes p.tgt = true → P p → P (handTarget i p)
  handLast {p : Part} {i : TargetItem} : i.record.form ≠ .notice → targetTakes p.tgt = true → P p →
    P (Machine.handTarget i (stopAccepting p))

/-- A notice raised leaves no reply waiting where none was. -/
theorem raise_replies {p : Part} (h : p.con.replies = []) (code : Nat) (tag : Option Tag) (fs : List Field) :
    (raise code tag fs p).con.replies = [] := by
  have hq : (queueNotice (notice code tag fs) p.con).replies = [] := by
    unfold queueNotice
    split
    · exact h
    · exact h
  unfold raise
  dsimp only
  unfold arbitrateConsole
  split
  · exact hq
  · split
    · rename_i hc
      rw [hq] at hc
      cases hc
    · split
      · exact hq
      · unfold reportLost
        split
        · split
          · exact hq
          · exact hq
        · exact hq

/-- The hold leaves the console as it was. -/
theorem holdTarget_con (p : Part) : (holdTarget p).con = p.con := by
  unfold holdTarget imageNoneAtHold
  dsimp only
  split <;> rfl

/-- The default settings put in force leave the console as it was. -/
theorem loadDefaults_con (p : Part) : (loadDefaults p).con = p.con := by
  have hports : ∀ (l : List Port) (p : Part),
      (l.foldl (fun p port => resetEntry port (defaultSettings.kinds.get port) p) p).con = p.con := by
    intro l
    induction l with
    | nil => exact fun _ => rfl
    | cons x l ih => exact fun p => ih _
  have hregions : ∀ (l : List Idx) (p : Part), (l.foldl (fun p i => setHealth i .unchecked p) p).con = p.con := by
    intro l
    induction l with
    | nil => exact fun _ => rfl
    | cons x l ih => exact fun p => ih _
  exact (hregions _ _).trans (hports _ _)

section Verbs

variable {P : Part → Prop} (h : KeptByVerbs P) {p : Part} (hr : p.con.replies = [])

include h

theorem kept_editMap {r : Option Region} (i : Idx)
    (hs : p.sst.settings.sound = true → mapSound (p.sst.settings.map.set i r) = true) (hp : P p) : P (editMap i r p) :=
  kept_setHealth h.toKeptByRuns i .unchecked
    (h.settings p.sst.source (fun hx => settingsSound_map (hs hx) hx) hp)

theorem kept_loadDefaults (hp : P p) : P (loadDefaults p) := by
  have hports : ∀ (l : List Port) {p : Part}, P p →
      P (l.foldl (fun p port => resetEntry port (defaultSettings.kinds.get port) p) p) := by
    intro l
    induction l with
    | nil => exact id
    | cons x l ih => exact fun hp => ih (kept_setEntry h.toKeptByRuns _ _ hp)
  have hregions : ∀ (l : List Idx) {p : Part}, P p → P (l.foldl (fun p i => setHealth i .unchecked p) p) := by
    intro l
    induction l with
    | nil => exact id
    | cons x l ih => exact fun hp => ih (kept_setHealth h.toKeptByRuns _ _ hp)
  exact hregions _ (hports _ (h.settings .defaults (fun _ => defaultSettings_sound) hp))

theorem kept_writeEnded (e : WriteEnd) (hp : P p) : P (writeEnded e p) := by
  unfold writeEnded
  split
  · exact hp
  · split
    · exact h.saveDone ‹_› hp
    · exact h.saveFailed _ hp
    · exact h.saveFailed _ hp

theorem kept_saveExpiry (hp : P p) : P (saveExpiry p) := by
  unfold saveExpiry
  split
  · exact hp
  · exact h.saveFailed _ hp

include hr

theorem kept_replyRecord (r : Record) (hp : P p) : P (replyRecord r p) := h.reply _ hr hp

theorem kept_refuse (code : Nat) (tag : Option Tag) (hp : P p) : P (refuse code tag p) := h.reply _ hr hp

theorem kept_replyOk (tag : Option Tag) (hp : P p) : P (replyOk tag p) := h.reply _ hr hp

theorem kept_listVerb (lines : Part → List (List Field)) (tag : Option Tag) (args : List Arg) (hp : P p) :
    P (listVerb lines tag args p) := by
  unfold listVerb
  split
  · exact kept_replyRecord h hr _ hp
  · exact kept_refuse h hr _ _ hp

theorem kept_abortVerb (tag : Option Tag) (args : List Arg) (hp : P p) : P (abortVerb tag args p) := by
  unfold abortVerb
  split
  · exact kept_abortOperation h.toKeptByRuns (kept_replyOk h hr _ hp)
  · exact kept_refuse h hr _ _ hp

theorem kept_restartVerb (tag : Option Tag) (args : List Arg) (hp : P p) : P (restartVerb tag args p) := by
  unfold restartVerb
  split
  · exact h.reply _ hr (h.frame (framed_sup p rfl (.inl rfl) id) hp)
  · exact kept_refuse h hr _ _ hp

theorem kept_statVerb_console (tag : Option Tag) (args : List Arg) (hp : P p) : P (statVerb .console tag args p) := by
  unfold statVerb
  split
  · exact kept_replyRecord h hr _ hp
  · exact kept_replyRecord h hr _ hp

theorem kept_probeVerb (tag : Option Tag) (args : List Arg) (hp : P p) : P (probeVerb tag args p) := by
  unfold probeVerb
  split
  · split
    · exact kept_refuse h hr _ _ hp
    · split
      · exact kept_refuse h hr _ _ hp
      · exact kept_beginProbe h.toKeptByRuns (by rfl) _ _ _ (h.takeSlot _ _ _ hr hp)
  · exact kept_refuse h hr _ _ hp

theorem kept_volumeVerb (tag : Option Tag) (args : List Arg) (hp : P p) : P (volumeVerb tag args p) := by
  unfold volumeVerb
  split
  · split
    · exact kept_refuse h hr _ _ hp
    · split
      · exact kept_refuse h hr _ _ hp
      · exact kept_beginVolume h.toKeptByRuns (by rfl) _ _ _ (h.takeSlot _ _ _ hr hp)
  · exact kept_refuse h hr _ _ hp

theorem kept_answerVerb (tag : Option Tag) (args : List Arg) (hp : P p) : P (answerVerb tag args p) := by
  unfold answerVerb
  split
  · split
    · exact kept_refuse h hr _ _ hp
    · split
      · exact kept_refuse h hr _ _ hp
      · split
        · exact kept_refuse h hr _ _ hp
        · have ha := fun r => kept_replyRecord h hr r hp
          dsimp only
          split
          · exact kept_questionYes h.toKeptByRuns (ha _)
          · exact kept_questionOutcome h.toKeptByRuns _ (ha _)
  · exact kept_refuse h hr _ _ hp

theorem kept_seekTaken (clear : Bool) (tag : Option Tag) (hp : P p) : P (seekTaken clear tag p) := by
  have hs := h.frame (framed_sup p (x := { p.sup with mode := .auto .search, slot := some .searchRun, verbRun := none })
    rfl (.inr nofun) nofun) hp
  unfold seekTaken
  refine kept_beginRun h.toKeptByRuns _ _ (h.reply _ ?_ ?_)
  · cases clear <;> exact hr
  · cases clear with
    | true => exact h.clearSpent hs
    | false => exact hs

theorem kept_seekVerb (tag : Option Tag) (args : List Arg) (hp : P p) : P (seekVerb tag args p) := by
  unfold seekVerb
  split
  · split
    · exact kept_refuse h hr _ _ hp
    · exact kept_seekTaken h hr _ _ hp
  · split
    · exact kept_refuse h hr _ _ hp
    · split
      · exact kept_refuse h hr _ _ hp
      · exact kept_seekTaken h hr _ _ hp
  · exact kept_refuse h hr _ _ hp

theorem kept_setOrder {l : List BootEntry} (tag : Option Tag)
    (hl : p.sst.settings.sound = true → l.length ≤ Config.orderCapacity ∧ ∀ e ∈ l, e.sound = true) (hp : P p) :
    P (replyOk tag (setOrder l p)) := by
  have hs : P (setOrder l p) :=
    h.settings p.sst.source (fun hs => settingsSound_order (hl hs).1 (hl hs).2 hs) hp
  exact h.reply _ hr hs

theorem kept_orderPutVerb (tag : Option Tag) (args : List Arg) (hp : P p) : P (orderPutVerb tag args p) := by
  unfold orderPutVerb
  split
  · rename_i i x f l t _ _
    split
    · split
      · exact kept_refuse h hr _ _ hp
      · split
        · exact kept_refuse h hr _ _ hp
        · rename_i hrange
          have he : ∀ port policy resort, (BootEntry.mk port f l t policy resort).sound = true := fun _ _ _ => by
            simp only [BootEntry.sound, Bool.and_eq_true, decide_eq_true_eq]
            exact ⟨⟨⟨by omega, by omega⟩, by omega⟩, by omega⟩
          dsimp only
          split
          · exact kept_refuse h hr _ _ hp
          · split
            · refine kept_setOrder h hr _ (fun hs => ?_) hp
              obtain ⟨hl, ho⟩ := orderSound hs
              refine ⟨by simpa using hl, fun e hm => ?_⟩
              obtain hm | rfl := List.mem_or_eq_of_mem_set hm
              · exact ho e hm
              · exact he _ _ _
            · split
              · exact kept_refuse h hr _ _ hp
              · rename_i hcap
                refine kept_setOrder h hr _ (fun hs => ?_) hp
                obtain ⟨hl, ho⟩ := orderSound hs
                refine ⟨by rw [List.length_append, List.length_singleton]; omega, fun e hm => ?_⟩
                obtain hm | hm := List.mem_append.mp hm
                · exact ho e hm
                · rw [List.mem_singleton.mp hm]
                  exact he _ _ _
    · exact kept_refuse h hr _ _ hp
  · exact kept_refuse h hr _ _ hp

theorem kept_orderDelVerb (tag : Option Tag) (args : List Arg) (hp : P p) : P (orderDelVerb tag args p) := by
  unfold orderDelVerb
  split
  · split
    · exact kept_refuse h hr _ _ hp
    · split
      · exact kept_refuse h hr _ _ hp
      · refine kept_setOrder h hr _ (fun hs => ?_) hp
        obtain ⟨hl, ho⟩ := orderSound hs
        exact ⟨Nat.le_trans (List.eraseIdx_sublist _ _).length_le hl, fun e hm => ho e (List.mem_of_mem_eraseIdx hm)⟩
  · exact kept_refuse h hr _ _ hp

theorem kept_orderMoveVerb (tag : Option Tag) (args : List Arg) (hp : P p) : P (orderMoveVerb tag args p) := by
  unfold orderMoveVerb
  split
  · rename_i i j
    split
    · exact kept_refuse h hr _ _ hp
    · split
      · exact kept_refuse h hr _ _ hp
      · rename_i hn
        refine kept_setOrder h hr _ (fun hs => ?_) hp
        obtain ⟨hl, ho⟩ := orderSound hs
        have hi : i - 1 < p.sst.settings.order.length := by omega
        rw [moveEntry_eq_insertIdx (List.getElem?_eq_getElem hi) (by omega)]
        refine ⟨?_, fun e hm => ?_⟩
        · rw [List.length_insertIdx_of_le_length, List.length_eraseIdx_of_lt hi]
          · omega
          · rw [List.length_eraseIdx_of_lt hi]
            omega
        · obtain rfl | hm := (List.mem_insertIdx (by rw [List.length_eraseIdx_of_lt hi]; omega)).mp hm
          · exact ho _ (List.getElem_mem hi)
          · exact ho e (List.mem_of_mem_eraseIdx hm)
  · exact kept_refuse h hr _ _ hp

theorem kept_mapPutVerb (tag : Option Tag) (args : List Arg) (hp : P p) : P (mapPutVerb tag args p) := by
  unfold mapPutVerb
  split
  · split
    · exact kept_refuse h hr _ _ hp
    · rename_i r hattr
      split
      · exact kept_refuse h hr _ _ hp
      · split
        · exact kept_refuse h hr _ _ hp
        · rename_i hrange
          split
          · exact kept_refuse h hr _ _ hp
          · rename_i hload
            split
            · exact kept_refuse h hr _ _ hp
            · rename_i hover
              split
              · exact kept_refuse h hr _ _ hp
              · refine kept_editMap h _ (fun hs => ?_) (kept_replyOk h hr _ hp)
                refine mapSound_set (mapSound_of_sound hs) ?_ hover
                obtain ⟨hb, hz⟩ := mapAttributes_base hattr
                simp only [Region.sound, Bool.and_eq_true, decide_eq_true_eq, hb, hz, Bool.not_eq_true', Config.pageBytes,
                  Config.addressEnd] at hrange ⊢
                refine ⟨⟨⟨⟨by omega, by omega⟩, by omega⟩, by omega⟩, ?_⟩
                simpa using hload
  · exact kept_refuse h hr _ _ hp

theorem kept_mapDelVerb (tag : Option Tag) (args : List Arg) (hp : P p) : P (mapDelVerb tag args p) := by
  unfold mapDelVerb
  split
  · split
    · exact kept_refuse h hr _ _ hp
    · split
      · exact kept_refuse h hr _ _ hp
      · split
        · exact kept_refuse h hr _ _ hp
        · refine kept_replyOk h ?_ _ (kept_editMap h _ (fun hs => mapSound_clear _ (mapSound_of_sound hs)) hp)
          exact hr
  · exact kept_refuse h hr _ _ hp

theorem kept_peekVerb (tag : Option Tag) (args : List Arg) (hp : P p) : P (peekVerb tag args p) := by
  have hw : ∀ a n, P (peekWords tag a n p) := by
    intro a n
    unfold peekWords
    split
    · exact kept_refuse h hr _ _ hp
    · split
      · exact kept_refuse h hr _ _ hp
      · split
        · exact kept_refuse h hr _ _ hp
        · split
          · exact kept_refuse h hr _ _ hp
          · split
            · exact kept_refuse h hr _ _ hp
            · exact kept_peekFrom h.toKeptByRuns _ _ rfl (h.takeSlot _ _ _ hr hp)
  unfold peekVerb
  split
  · exact hw _ _
  · exact hw _ _
  · exact kept_refuse h hr _ _ hp

theorem kept_pokeVerb (tag : Option Tag) (args : List Arg) (hp : P p) : P (pokeVerb tag args p) := by
  unfold pokeVerb
  split
  · split
    · exact kept_refuse h hr _ _ hp
    · exact kept_beginPoke h.toKeptByRuns rfl _ _ _ (h.takeSlot _ _ _ hr hp)
  · exact kept_refuse h hr _ _ hp

theorem kept_checkVerb (tag : Option Tag) (args : List Arg) (hp : P p) : P (checkVerb tag args p) := by
  unfold checkVerb
  split
  · exact kept_refuse h hr _ _ hp
  · split
    · exact kept_refuse h hr _ _ hp
    · split
      · exact kept_refuse h hr _ _ hp
      · split
        · exact kept_refuse h hr _ _ hp
        · split
          · exact kept_refuse h hr _ _ hp
          · exact kept_beginCheck h.toKeptByRuns _ _ _ _ _ _ _ (h.reply _ hr (h.takeSlot _ _ _ hr hp))

theorem kept_startVerb (boot : Bool) (tag : Option Tag) (args : List Arg) (hp : P p) : P (startVerb boot tag args p) := by
  have ht : ∀ port unit raw, P (startTaken boot tag port unit raw p) := fun _ _ _ =>
    kept_beginStart h.toKeptByRuns _ _ _ _ _ (h.reply _ hr (h.takeSlot _ _ _ hr hp))
  unfold startVerb
  dsimp only
  split
  · split
    · exact kept_refuse h hr _ _ hp
    · split
      · exact kept_refuse h hr _ _ hp
      · exact ht _ _ _
  · split
    · split
      · exact kept_refuse h hr _ _ hp
      · split
        · exact kept_refuse h hr _ _ hp
        · exact ht _ _ _
    · exact kept_refuse h hr _ _ hp
  · exact kept_refuse h hr _ _ hp

theorem kept_goVerb (tag : Option Tag) (args : List Arg) (hp : P p) : P (goVerb tag args p) := by
  unfold goVerb
  split
  · split
    · split
      · exact kept_refuse h hr _ _ hp
      · split
        · exact kept_refuse h hr _ _ hp
        · exact h.release _ _ (h.reply _ hr (h.takeSlot _ _ _ hr hp))
    · exact kept_refuse h hr _ _ hp
  · exact kept_refuse h hr _ _ hp

theorem kept_holdVerb (tag : Option Tag) (args : List Arg) (hp : P p) : P (holdVerb tag args p) := by
  unfold holdVerb
  split
  · rename_i r _
    have hh := h.holdTarget hp
    have hhr : (holdTarget p).con.replies = [] := by rw [holdTarget_con, hr]
    have hend : ∀ {p : Part}, p.con.replies = [] → P p →
        P (goIdle (dropReleased (replyRecord (accepted 730 tag r.key.fields) p))) := fun hr hp =>
      kept_goIdle h.toKeptByRuns (h.frame (framed_rlu _ _) (h.reply _ hr hp))
    unfold holdTaken
    dsimp only
    split
    · exact hend (raise_replies hhr _ _ _) (h.appendRecord _ _ _ _ _ hh)
    · exact hend hhr hh
  · exact kept_refuse h hr _ _ hp
  · exact kept_refuse h hr _ _ hp

theorem kept_getVerb (tag : Option Tag) (args : List Arg) (hp : P p) : P (getVerb tag args p) := by
  unfold getVerb
  split
  · split
    · exact kept_refuse h hr _ _ hp
    · exact kept_replyRecord h hr _ hp
  · exact kept_refuse h hr _ _ hp

theorem kept_setVerb (tag : Option Tag) (args : List Arg) (hp : P p) : P (setVerb tag args p) := by
  unfold setVerb
  split
  · split
    · exact kept_refuse h hr _ _ hp
    · split
      · exact kept_refuse h hr _ _ hp
      · rename_i s hj
        split
        · exact kept_refuse h hr _ _ hp
        · have hs : P (setSettings s p) := h.settings p.sst.source (settingsSound_judgeSetting hj) hp
          have hsr : (setSettings s p).con.replies = [] := hr
          unfold setTaken
          dsimp only
          split
          · exact h.reply _ hsr (kept_setEntry h.toKeptByRuns _ _ hs)
          · exact h.replyRate _ hsr hs
          · exact kept_replyOk h hsr _ hs
  · exact kept_refuse h hr _ _ hp

theorem kept_saveVerb (tag : Option Tag) (args : List Arg) (hp : P p) : P (saveVerb tag args p) := by
  unfold saveVerb
  split
  · split
    · exact kept_refuse h hr _ _ hp
    · split
      · exact kept_refuse h hr _ _ hp
      · exact h.reply _ hr (h.beginSave tag hp)
  · exact kept_refuse h hr _ _ hp

theorem kept_defaultsVerb (tag : Option Tag) (args : List Arg) (hp : P p) : P (defaultsVerb tag args p) := by
  unfold defaultsVerb
  split
  · split
    · exact kept_refuse h hr _ _ hp
    · split
      · exact kept_refuse h hr _ _ hp
      · exact h.replyRate _ (by rw [loadDefaults_con, hr]) (kept_loadDefaults h hp)
  · exact kept_refuse h hr _ _ hp

theorem kept_ownerOf (v : Verb) (tag : Option Tag) (args : List Arg) (hp : P p) : P (ownerOf v tag args p) := by
  cases v with
  | abort => exact kept_abortVerb h hr _ _ hp
  | answer => exact kept_answerVerb h hr _ _ hp
  | boot => exact kept_startVerb h hr _ _ _ hp
  | check => exact kept_checkVerb h hr _ _ hp
  | defaults => exact kept_defaultsVerb h hr _ _ hp
  | get => exact kept_getVerb h hr _ _ hp
  | go => exact kept_goVerb h hr _ _ hp
  | hold => exact kept_holdVerb h hr _ _ hp
  | mapPut => exact kept_mapPutVerb h hr _ _ hp
  | mapDel => exact kept_mapDelVerb h hr _ _ hp
  | orderPut => exact kept_orderPutVerb h hr _ _ hp
  | orderDel => exact kept_orderDelVerb h hr _ _ hp
  | orderMove => exact kept_orderMoveVerb h hr _ _ hp
  | peek => exact kept_peekVerb h hr _ _ hp
  | poke => exact kept_pokeVerb h hr _ _ hp
  | probe => exact kept_probeVerb h hr _ _ hp
  | restart => exact kept_restartVerb h hr _ _ hp
  | save => exact kept_saveVerb h hr _ _ hp
  | seek => exact kept_seekVerb h hr _ _ hp
  | set => exact kept_setVerb h hr _ _ hp
  | stage => exact kept_startVerb h hr _ _ _ hp
  | stat => exact kept_statVerb_console h hr _ _ hp
  | volume => exact kept_volumeVerb h hr _ _ hp
  | defects => exact kept_listVerb h hr (fun p => defectLines p.mck) tag args hp
  | log => exact kept_listVerb h hr (fun p => p.sre.log.map AttemptRecord.textFields) tag args hp
  | mapList => exact kept_listVerb h hr mapLines tag args hp
  | orderList => exact kept_listVerb h hr (fun p => orderLines 1 p.sst.settings.order) tag args hp
  | ports => exact kept_listVerb h hr portsLines tag args hp
  | spent => exact kept_listVerb h hr (fun p => p.sre.spent.map CandidateKey.fields) tag args hp
  | mapOther | orderOther | alive | revert | hand | reboot => exact kept_refuse h hr _ _ hp

theorem kept_takeConsole (r : Request) (hp : P p) : P (takeConsole r p) := by
  unfold takeConsole
  split
  · exact kept_refuse h hr _ _ hp
  · split
    · exact kept_ownerOf h hr _ _ _ hp
    · exact kept_refuse h hr _ _ hp

theorem kept_followConsole (x : Parsed) (hp : P p) : P (followConsole x p) := by
  cases x with
  | refused code tag => exact kept_refuse h hr _ _ hp
  | request r => exact kept_takeConsole h hr _ hp

theorem kept_takeConsoleLine (q : QueuedLine) (hp : P p) : P (takeConsoleLine q p) := by
  cases q with
  | text t => exact kept_followConsole h hr _ hp
  | _ => exact kept_refuse h hr _ _ hp

end Verbs

section TargetVerbs

variable {P : Part → Prop} (h : KeptByVerbs P) {p : Part} (ht : targetTakes p.tgt = true)

include h ht

theorem kept_targetReply {r : Record} (hr : r.form ≠ .notice) (hp : P p) : P (targetReply r p) := h.handTarget hr ht hp

theorem kept_confirm (tag : Option Tag) (r : Released) (hp : P p) : P (confirm tag r p) := by
  have hc := h.appendRecord r.tag r.fields .confirmed none (some r.key.imageId)
    (kept_targetReply h (p := stopWindow p) (r := accepted 711 tag [.num r.key.imageId.toNat]) ht nofun
      (h.frame (framed_rlu p _) hp))
  have hrunning : ∀ {q : Part} (x : Rlu), P q →
      P { q with rlu := x, sup := { q.sup with mode := .targetRun .running } } := fun {q} _ hq =>
    h.frame (p := q) ⟨rfl, rfl, rfl, rfl, rfl, rfl, rfl, rfl, rfl, rfl, .inr nofun, id⟩ hq
  exact h.raise _ _ _ (hrunning _ hc)

theorem kept_aliveVerb (tag : Option Tag) (args : List Arg) (r : Released) (hp : P p) : P (aliveVerb tag args r p) := by
  unfold aliveVerb
  split
  · exact kept_targetReply h ht nofun hp
  · split
    · split
      · exact kept_confirm h ht _ _ hp
      · exact kept_targetReply h ht nofun hp
    · exact kept_targetReply h ht nofun hp

theorem kept_revertVerb (tag : Option Tag) (args : List Arg) (r : Released) (hp : P p) : P (revertVerb tag args r p) := by
  unfold revertVerb
  split
  · exact kept_targetReply h ht nofun hp
  · split
    · exact h.handLast (p := stopWindow p) nofun ht (h.frame (framed_rlu p _) hp)
    · exact kept_targetReply h ht nofun hp

theorem kept_handVerb (tag : Option Tag) (args : List Arg) (hp : P p) : P (handVerb tag args p) := by
  unfold handVerb
  split
  · split
    · exact kept_targetReply h ht nofun hp
    · exact kept_targetReply h ht nofun hp
  · exact kept_targetReply h ht nofun hp

theorem kept_rebootVerb (tag : Option Tag) (args : List Arg) (hp : P p) : P (rebootVerb tag args p) := by
  unfold rebootVerb
  split
  · exact h.handLast (p := stopWindow p) nofun ht (h.frame (framed_rlu p _) hp)
  · exact kept_targetReply h ht nofun hp

theorem kept_takeTarget (r : Request) (hp : P p) : P (takeTarget r p) := by
  unfold takeTarget
  split
  · exact kept_targetReply h ht nofun hp
  · split
    · exact kept_aliveVerb h ht _ _ _ hp
    · exact kept_revertVerb h ht _ _ _ hp
    · exact kept_handVerb h ht _ _ hp
    · exact kept_rebootVerb h ht _ _ hp
    · unfold statVerb
      split
      · exact kept_targetReply h ht nofun hp
      · exact kept_targetReply h ht nofun hp
    · exact kept_targetReply h ht nofun hp

theorem kept_followTarget (x : Parsed) (hp : P p) : P (followTarget x p) := by
  cases x with
  | refused code tag => exact kept_targetReply h ht nofun hp
  | request r => exact kept_takeTarget h ht _ hp

theorem kept_takeTargetLine (q : QueuedLine) (hp : P p) : P (takeTargetLine q p) := by
  cases q with
  | text t => exact kept_followTarget h ht _ hp
  | _ => exact kept_targetReply h ht nofun hp

end TargetVerbs

/-! ### Line queues (R172 to R174) -/

/-- A family of conditions that bound how many lines the console and the target line may still take when no reply waits; with 0 and
0 it is the condition that steps keep. -/
structure KeptByLines (P : Nat → Nat → Part → Prop) : Prop where
  verbs (m n : Nat) : KeptByVerbs (P m n)
  consoleTaken {m n : Nat} {p : Part} {q : QueuedLine} {rest : List QueuedLine} : p.con.lines = q :: rest →
    p.con.replies = [] → P (m + 1) n p → P m n { p with con := { p.con with lines := rest } }
  consoleDone {m n : Nat} {p : Part} : p.con.lines = [] ∨ p.con.replies ≠ [] → P m n p → P 0 n p
  consoleOffered {n : Nat} {p : Part} (q : QueuedLine) : p.con.lines.length < 2 → P 0 n p →
    P (p.con.lines.length + 1) n { p with con := { p.con with lines := p.con.lines ++ [q] } }
  targetTaken {m n : Nat} {p : Part} {q : QueuedLine} {rest : List QueuedLine} : p.tgt.lines = q :: rest →
    P m (n + 1) p → P m n { p with tgt := { p.tgt with lines := rest } }
  targetDone {m n : Nat} {p : Part} : p.tgt.lines = [] ∨ targetTakes p.tgt = false → P m n p → P m 0 p
  targetOffered {m : Nat} {p : Part} (q : QueuedLine) : p.tgt.isOpen = true → p.tgt.lines.length < 2 → P m 0 p →
    P m (p.tgt.lines.length + 1) { p with tgt := { p.tgt with lines := p.tgt.lines ++ [q] } }
  consoleLine {p : Part} {l : Partial} : (p.con.line.kept.length ≤ 80 → l.kept.length ≤ 80) → P 0 0 p →
    P 0 0 (setConsoleLine l p)
  targetLine {p : Part} {l : Partial} : p.tgt.isOpen = true → (p.tgt.line.kept.length ≤ 80 → l.kept.length ≤ 80) →
    P 0 0 p → P 0 0 (setTargetLine l p)
  consoleWait {p : Part} (b : Bool) : P 0 0 p → P 0 0 { p with con := { p.con with waitMarking := b } }
  targetWait {p : Part} (b : Bool) : P 0 0 p → P 0 0 { p with tgt := { p.tgt with waitMarking := b } }
  consoleFreed {p : Part} {i : ConsoleItem} : p.con.tx = some i → P 0 0 p → P p.con.lines.length 0 (freeConsole p)
  targetFreed {p : Part} {i : TargetItem} : p.tgt.tx = some i → P 0 0 p → P 0 p.tgt.lines.length (freeTarget p)
  switchRate {p : Part} : P 0 0 p → P 0 0 { p with con := switchRate p.con }

/-- A received byte keeps the partial line within 80 characters (R170). -/
theorem buildLine_kept {b : Byte} {l : Partial} (hl : l.kept.length ≤ 80) : (buildLine b l).1.kept.length ≤ 80 := by
  unfold buildLine
  split
  · exact Nat.zero_le _
  · split
    · exact hl
    · split
      · unfold backspace
        split
        · exact Nat.le_trans (Nat.le_of_eq (List.length_dropLast ..)) (Nat.le_trans (Nat.sub_le _ _) hl)
        · exact hl
      · split
        · unfold keepChar
          split
          · split
            · rename_i hlt
              rw [List.length_append]
              exact hlt
            · exact Nat.zero_le _
          · exact hl
        · unfold spoil
          split
          · exact Nat.zero_le _
          · exact hl

theorem spoil_kept {l : Partial} (hl : l.kept.length ≤ 80) : (spoil l).kept.length ≤ 80 := by
  unfold spoil
  split
  · exact Nat.zero_le _
  · exact hl

/-- The arbiter's choice and a frame of the console leave the lines waiting. -/
theorem freeConsole_lines (p : Part) : (freeConsole p).con.lines = p.con.lines :=
  (arbitrateConsole_frame _).2.2.2.2

theorem freeTarget_lines (p : Part) : (freeTarget p).tgt.lines = p.tgt.lines := by
  unfold freeTarget startTarget
  dsimp only
  split <;> rfl

theorem switchAfter_tx (i : ConsoleItem) (p : Part) : (switchAfter i p).con.tx = p.con.tx := by
  unfold switchAfter Machine.switchRate
  split
  · dsimp only
    split <;> rfl
  · rfl

theorem consoleSent_of_tx {p : Part} {i : ConsoleItem} (ht : p.con.tx = some i) :
    consoleSent p = pumpConsole (freeConsole (switchAfter i (restartAfter i p))) := by
  rw [consoleSent, ht]

section Lines

variable {P : Nat → Nat → Part → Prop} (h : KeptByLines P) {p : Part}

include h

theorem kept_takeConsoleLines {m n : Nat} (hp : P m n p) : P 0 n (takeConsoleLines m p) := by
  induction m generalizing p with
  | zero => exact hp
  | succ m ih =>
    unfold takeConsoleLines
    split
    · rename_i q rest hl hr
      exact ih (kept_takeConsoleLine (h.verbs m n) (p := { p with con := { p.con with lines := rest } }) hr _
        (h.consoleTaken hl hr hp))
    · rename_i hno
      refine h.consoleDone ?_ hp
      cases hl : p.con.lines with
      | nil => exact .inl rfl
      | cons q rest => exact .inr fun hr => hno q rest hl hr

theorem kept_takeTargetLines {m n : Nat} (hp : P m n p) : P m 0 (takeTargetLines n p) := by
  induction n generalizing p with
  | zero => exact hp
  | succ n ih =>
    unfold takeTargetLines
    split
    · exact h.targetDone (.inl ‹_›) hp
    · rename_i q rest hl
      split
      · rename_i ht
        exact ih (kept_takeTargetLine (h.verbs m n) (p := { p with tgt := { p.tgt with lines := rest } }) ht _
          (h.targetTaken hl hp))
      · rename_i ht
        exact h.targetDone (.inr (by simpa using ht)) hp

theorem kept_offerConsole (q : QueuedLine) {n : Nat} (hp : P 0 n p) : P 0 n (offerConsole q p) := by
  unfold offerConsole
  split
  · rename_i hl
    have ho := h.consoleOffered q hl hp
    refine kept_takeConsoleLines h (?_ : P (p.con.lines ++ [q]).length n _)
    rwa [List.length_append]
  · exact (h.verbs 0 n).raise _ _ _ hp

theorem kept_offerTarget (q : QueuedLine) {m : Nat} (ho : p.tgt.isOpen = true) (hp : P m 0 p) : P m 0 (offerTarget q p) := by
  unfold offerTarget
  split
  · rename_i hl
    have ho := h.targetOffered q ho hl hp
    refine kept_takeTargetLines h (?_ : P m (p.tgt.lines ++ [q]).length _)
    rwa [List.length_append]
  · exact (h.verbs m 0).raise _ _ _ hp

theorem kept_arriveConsole {take : Part → Part} (q : QueuedLine)
    (htake : p.con.replies = [] → P 0 0 p → P 0 0 (take p)) (hp : P 0 0 p) : P 0 0 (arriveConsole take q p) := by
  unfold arriveConsole
  split
  · exact htake (And.right ‹_›) hp
  · exact kept_offerConsole h _ hp

theorem kept_arriveTarget {take : Part → Part} (q : QueuedLine)
    (htake : targetTakes p.tgt = true → P 0 0 p → P 0 0 (take p)) (hp : P 0 0 p) : P 0 0 (arriveTarget take q p) := by
  unfold arriveTarget
  split
  · exact hp
  · rename_i ho
    split
    · exact htake (And.right ‹_›) hp
    · exact kept_offerTarget h _ (by simpa using ho) hp

theorem kept_receive (l : Line) (b : Byte) (hp : P 0 0 p) : P 0 0 (receive l b p) := by
  cases l with
  | console =>
    have hs := h.consoleLine (l := (buildLine b p.con.line).1) buildLine_kept hp
    unfold receive receiveConsole
    dsimp only
    split
    · exact hp
    · split
      · exact hs
      · exact kept_offerConsole h _ hs
  | target =>
    unfold receive receiveTarget
    dsimp only
    split
    · exact hp
    · rename_i ho
      have ho : p.tgt.isOpen = true := by simpa using (not_or.mp ho).1
      have hs := h.targetLine (l := (buildLine b p.tgt.line).1) ho buildLine_kept hp
      split
      · exact hs
      · exact kept_offerTarget h _ ho hs

theorem kept_frameError (l : Line) (hp : P 0 0 p) : P 0 0 (frameError l p) := by
  cases l with
  | console =>
    unfold frameError
    dsimp only
    split
    · exact hp
    · exact h.consoleLine spoil_kept hp
  | target =>
    unfold frameError
    dsimp only
    split
    · exact hp
    · rename_i ho
      exact h.targetLine (by simpa using (not_or.mp ho).1) spoil_kept hp

theorem kept_consoleBreak (hp : P 0 0 p) : P 0 0 (consoleBreak p) := by
  unfold consoleBreak
  split
  · exact hp
  · exact kept_takeBreak (h.verbs 0 0).toKeptByRuns
      (h.consoleWait true (h.consoleLine (l := emptyPartial) (fun _ => Nat.zero_le _) hp))

theorem kept_markingAgain (l : Line) (hp : P 0 0 p) : P 0 0 (markingAgain l p) := by
  cases l with
  | console => exact h.consoleWait false hp
  | target => exact h.targetWait false hp

theorem kept_targetSpacing (hp : P 0 0 p) : P 0 0 (targetSpacing p) := by
  unfold targetSpacing
  split
  · exact h.targetWait true hp
  · exact hp

theorem kept_pumpFreed {i : ConsoleItem} (ht : p.con.tx = some i) (hp : P 0 0 p) : P 0 0 (pumpConsole (freeConsole p)) := by
  have hf := h.consoleFreed ht hp
  rw [← freeConsole_lines] at hf
  exact kept_takeConsoleLines h hf

theorem kept_switchAfter (i : ConsoleItem) (hp : P 0 0 p) : P 0 0 (switchAfter i p) := by
  unfold switchAfter
  split
  · exact h.switchRate hp
  · exact hp

/-- The end of a console record without a RESTART. -/
theorem kept_consoleSent (hnone : ∀ i, p.con.tx = some i → restartAfter i p = p) (hp : P 0 0 p) : P 0 0 (consoleSent p) := by
  unfold consoleSent
  split
  · exact hp
  · rename_i i ht
    rw [hnone i ht]
    exact kept_pumpFreed h ((switchAfter_tx i p).trans ht) (kept_switchAfter h i hp)

/-- The end of a target-line record other than "+803". -/
theorem kept_targetSent (hnone : p.tgt.tx.map TargetItem.after ≠ some .reboot) (hp : P 0 0 p) : P 0 0 (targetSent p) := by
  unfold targetSent
  split
  · exact hp
  · rename_i i ht
    split
    · exact kept_failWindow (h.verbs 0 0).toKeptByRuns _ hp
    · rename_i ha
      simp [ht, ha] at hnone
    · have hf := h.targetFreed ht hp
      rw [← freeTarget_lines] at hf
      exact kept_takeTargetLines h hf

/-- Every effect keeps the condition, but for what is said of the resets and of the settling of the settings. -/
theorem kept_effect {f : Part → Part} (hf : Effect f) (hreset : ∀ cause, f = takePowerReset cause → P 0 0 (f p))
    (hsettle : f = settle → P 0 0 (f p)) (hconsole : f = consoleSent → P 0 0 (f p)) (htarget : f = targetSent → P 0 0 (f p))
    (hp : P 0 0 p) : P 0 0 (f p) := by
  have hv := h.verbs 0 0
  have hr := hv.toKeptByRuns
  cases hf with
  | powerReset cause => exact hreset cause rfl
  | settle => exact hsettle rfl
  | consoleSent => exact hconsole rfl
  | targetSent => exact htarget rfl
  | initExpiry => exact kept_initExpiry hr hp
  | answerExchange kind result port => exact kept_answerExchange hr _ _ _ hp
  | linkBytes port bytes => exact kept_linkPieces hr _ _ hp
  | exchangeExpiry port => exact kept_exchangeExpiry hr _ hp
  | linkSent port => exact kept_linkSent hr _ hp
  | senseLevel port card => exact kept_senseLevel hr _ _ hp
  | cardIn port => exact kept_cardIn hr _ hp
  | cardOut port => exact kept_cardOut hr _ hp
  | questionExpiry => exact kept_questionExpiry hr hp
  | waitExpiry => exact kept_waitExpiry hr hp
  | windowExpiry => exact kept_windowExpiry hr hp
  | busResponse mrdy merr word => exact kept_busResponse hr _ _ _ hp
  | responseExpiry => exact kept_responseExpiry hr hp
  | writeEnded e => exact kept_writeEnded hv _ hp
  | saveExpiry => exact kept_saveExpiry hv hp
  | receive l b => exact kept_receive h _ _ hp
  | frameError l => exact kept_frameError h _ hp
  | consoleBreak => exact kept_consoleBreak h hp
  | markingAgain l => exact kept_markingAgain h _ hp
  | targetSpacing => exact kept_targetSpacing h hp
  | consoleLine q => exact kept_arriveConsole h _ (fun hq hp => kept_takeConsoleLine hv hq _ hp) hp
  | targetLine q => exact kept_arriveTarget h _ (fun ht hp => kept_takeTargetLine hv ht _ hp) hp
  | consoleWords x q => exact kept_arriveConsole h _ (fun hq hp => kept_followConsole hv hq _ hp) hp
  | targetWords x q => exact kept_arriveTarget h _ (fun ht hp => kept_followTarget hv ht _ hp) hp

end Lines

/-- A family of conditions that resets and the settling of the settings keep too. -/
structure KeptByResets (P : Nat → Nat → Part → Prop) : Prop extends KeptByLines P where
  powerReset {p : Part} (cause : ResetCause) : P 0 0 p → P 0 0 (takePowerReset cause p)
  settledSettings {p : Part} : P 0 0 p → P 0 0 { p with sst := chooseSettings p.sst }
  settledRate {p : Part} (rate : Nat) : P 0 0 p → P 0 0 { p with con := settleRate rate p.con }
  settled {p : Part} : P 0 0 p → P 0 0 { p with sup := { p.sup with settled := true } }
  restart {p : Part} : P 0 0 p → P 0 0 (takeRestart p)

/-- A RESTART leaves the transmitter sending what it was sending. -/
theorem takeRestart_tx {i : ConsoleItem} (ht : p.con.tx = some i) :
    (takeRestart p).con.tx = some { i with restart := false } := by
  unfold takeRestart withdrawQuestion
  dsimp only
  split
  · simp [unmarkRestart, ht]
  · rw [raise_busy (i := i) (by exact ht)]
    unfold queueNotice
    split <;> simp [unmarkRestart, endQuestion, setSre, ht]

section Resets

variable {P : Nat → Nat → Part → Prop} (h : KeptByResets P) {p : Part}

include h

theorem kept_settle (hp : P 0 0 p) : P 0 0 (settle p) := by
  have hr := (h.verbs 0 0).toKeptByRuns
  unfold settle
  dsimp only
  split
  · have hs := fun code tag fs rate x => h.settled (h.settledRate rate
      (hr.frame (framed_spc _ x) (hr.raise code tag fs (h.settledSettings hp))))
    split
    · exact hs _ _ _ _ _
    · exact kept_endInit hr (hs _ _ _ _ _)
  · exact hp

theorem kept_consoleSent_of_resets (hp : P 0 0 p) : P 0 0 (consoleSent p) := by
  cases ht : p.con.tx with
  | none => rwa [consoleSent, ht]
  | some i =>
    by_cases hi : i.restart ∧ p.sup.restartPending
    · rw [consoleSent_of_tx ht, restartAfter, if_pos hi]
      exact kept_pumpFreed h.toKeptByLines ((switchAfter_tx i _).trans (takeRestart_tx ht))
        (kept_switchAfter h.toKeptByLines i (h.restart hp))
    · refine kept_consoleSent h.toKeptByLines (fun j hj => ?_) hp
      cases ht.symm.trans hj
      rw [restartAfter, if_neg hi]

theorem kept_targetSent_of_resets (hp : P 0 0 p) : P 0 0 (targetSent p) := by
  by_cases ha : p.tgt.tx.map TargetItem.after = some .reboot
  · obtain ⟨i, ht, hi⟩ := Option.map_eq_some_iff.mp ha
    rw [targetSent, ht]
    simp only [hi]
    exact h.restart hp
  · exact kept_targetSent h.toKeptByLines ha hp

/-- A family of conditions kept by all that a command can do gives a condition that every step keeps. -/
theorem keptByEveryStep_of_resets : KeptByEveryStep (P 0 0) := by
  refine keptByEveryStep_of_effect fun f hf p hp => kept_effect h.toKeptByLines hf ?_ ?_ ?_ ?_ hp
  · rintro cause rfl
    exact h.powerReset cause hp
  · rintro rfl
    exact kept_settle h hp
  · rintro rfl
    exact kept_consoleSent_of_resets h hp
  · rintro rfl
    exact kept_targetSent_of_resets h hp

end Resets

end Sys2Proof.Proofs

/-! PROOFS. The conditions on the settings store and on the lists, kept by every step. -/

namespace Sys2Proof.Proofs

open Sys2Proof Sys2Proof.Machine

/-! ### What a release, a hold and a withdrawn question leave -/

theorem release_sst (kind : ReleaseKind) (tag : Option Tag) (p : Part) : (release kind tag p).sst = p.sst := by
  unfold release
  split <;> rfl

theorem release_mck (kind : ReleaseKind) (tag : Option Tag) (p : Part) : (release kind tag p).mck = p.mck := by
  unfold release
  split <;> rfl

theorem holdTarget_sst (p : Part) : (holdTarget p).sst = p.sst := by
  unfold holdTarget imageNoneAtHold
  dsimp only
  split <;> rfl

theorem holdTarget_sre (p : Part) : (holdTarget p).sre = p.sre := by
  unfold holdTarget imageNoneAtHold
  dsimp only
  split <;> rfl

theorem holdTarget_mck (p : Part) : (holdTarget p).mck = p.mck := by
  unfold holdTarget imageNoneAtHold
  dsimp only
  split <;> rfl

theorem holdTarget_sup (p : Part) : (holdTarget p).sup = p.sup := by
  unfold holdTarget imageNoneAtHold
  dsimp only
  split <;> rfl

theorem withdrawQuestion_sst (p : Part) : (withdrawQuestion p).sst = p.sst := by
  unfold withdrawQuestion
  split <;> rfl

theorem withdrawQuestion_mck (p : Part) : (withdrawQuestion p).mck = p.mck := by
  unfold withdrawQuestion
  split <;> rfl

theorem withdrawQuestion_log (p : Part) : (withdrawQuestion p).sre.log = p.sre.log := by
  unfold withdrawQuestion
  split <;> rfl

theorem withdrawQuestion_nextSeq (p : Part) : (withdrawQuestion p).sre.nextSeq = p.sre.nextSeq := by
  unfold withdrawQuestion
  split <;> rfl

/-- A condition that does not look at the lines. -/
theorem keptByLines_of_verbs {P : Part → Prop} (hv : KeptByVerbs P)
    (hl : ∀ (p : Part) (c : Console) (t : Target), P p → P { p with con := c, tgt := t }) : KeptByLines fun _ _ => P where
  verbs _ _ := hv
  consoleTaken _ _ hp := hl _ _ _ hp
  consoleDone _ hp := hp
  consoleOffered _ _ hp := hl _ _ _ hp
  targetTaken _ hp := hl _ _ _ hp
  targetDone _ hp := hp
  targetOffered _ _ _ hp := hl _ _ _ hp
  consoleLine _ hp := hl _ _ _ hp
  targetLine _ _ hp := hl _ _ _ hp
  consoleWait _ hp := hl _ _ _ hp
  targetWait _ hp := hl _ _ _ hp
  consoleFreed _ hp := hl _ _ _ hp
  targetFreed _ hp := hl _ _ _ hp
  switchRate hp := hl _ _ _ hp

/-! ### The settings store -/

/-- The condition on the settings depends on the settings store alone. -/
theorem settingsSound_congr {p q : Part} (h : q.sst = p.sst) (hp : settingsSound p) : settingsSound q := by
  unfold settingsSound at *
  rwa [h]

theorem settingsSound_chosen {p : Part} (hp : settingsSound p) : settingsSound { p with sst := chooseSettings p.sst } := by
  obtain ⟨hs, ha, hb, hv⟩ := hp
  unfold settingsSound chooseSettings
  dsimp only
  split
  · exact ⟨defaultSettings_sound, ha, hb, hv⟩
  · rename_i area _
    split
    · exact ⟨defaultSettings_sound, ha, hb, hv⟩
    · rename_i c hc
      refine ⟨?_, ha, hb, hv⟩
      cases area with
      | a => exact ha c hc
      | b => exact hb c hc

theorem settingsSound_beginSave {p : Part} (tag : Option Tag) (hp : settingsSound p) : settingsSound (beginSave tag p) := by
  obtain ⟨hs, ha, hb, -⟩ := hp
  unfold beginSave
  cases saveTarget p.sst with
  | a => exact ⟨hs, fun _ => nofun, hb, by rintro v ⟨⟩; exact hs⟩
  | b => exact ⟨hs, ha, fun _ => nofun, by rintro v ⟨⟩; exact hs⟩

theorem settingsSound_saveDone {p : Part} {v : Save} (hv : p.sst.saving = some v) (hp : settingsSound p) :
    settingsSound (saveDone v p) := by
  obtain ⟨hs, ha, hb, hsave⟩ := hp
  have hsnap := hsave v hv
  unfold saveDone
  cases v.area with
  | a => exact ⟨hs, by rintro c ⟨⟩; exact hsnap, hb, fun _ => nofun⟩
  | b => exact ⟨hs, ha, by rintro c ⟨⟩; exact hsnap, fun _ => nofun⟩

theorem settingsSound_keptByVerbs : KeptByVerbs settingsSound where
  frame f hp := settingsSound_congr f.sst hp
  raise _ _ _ hp := hp
  appendRecord _ _ _ _ _ hp := hp
  handQuestion _ hp := hp
  dropQuestion hp := hp
  replyIdle _ _ hp := hp
  recordDefect _ hp := hp
  noDefects _ hp := hp
  release _ _ hp := settingsSound_congr (release_sst ..) hp
  holdTarget hp := settingsSound_congr (holdTarget_sst _) hp
  addSpent _ hp := hp
  reply _ _ hp := hp
  takeSlot _ _ _ _ hp := hp
  clearSpent hp := hp
  settings _ hs hp := ⟨hs hp.1, hp.2⟩
  beginSave tag hp := settingsSound_beginSave tag hp
  saveDone hv hp := settingsSound_saveDone hv hp
  saveFailed _ hp := ⟨hp.1, hp.2.1, hp.2.2.1, fun _ => nofun⟩
  replyRate _ _ hp := hp
  handTarget _ _ hp := hp
  handLast _ _ hp := hp

theorem settingsSound_keptByResets : KeptByResets fun _ _ => settingsSound where
  toKeptByLines := keptByLines_of_verbs settingsSound_keptByVerbs fun _ _ _ hp => hp
  powerReset _ hp := ⟨defaultSettings_sound, hp.2.1, hp.2.2.1, fun _ => nofun⟩
  settledSettings hp := settingsSound_chosen hp
  settledRate _ hp := hp
  settled hp := hp
  restart hp := settingsSound_congr (withdrawQuestion_sst _) hp

/-- Settles O53: every operation on the settings store keeps the ranges, the list rule and the map rule. -/
theorem settingsStaySound : Obligations.SettingsStaySound := keptByEveryStep_of_resets settingsSound_keptByResets

/-! ### The lists -/

/-- The condition on the lists depends on them and their counts alone. -/
theorem listsSound_congr {p q : Part} (hl : q.sre.log = p.sre.log) (hn : q.sre.nextSeq = p.sre.nextSeq)
    (hs : q.sre.spent = p.sre.spent) (hc : q.sre.releaseCount = p.sre.releaseCount) (hd : q.mck.defects = p.mck.defects)
    (hx : q.mck.dropped = p.mck.dropped) (hp : listsSound p) : listsSound q := by
  unfold listsSound at *
  rwa [hl, hn, hs, hc, hd, hx]

/-- The number after a number is the one that `appendRecord` makes the next. -/
theorem numbered_append {n : Nat} {l : List AttemptRecord} {r : AttemptRecord} (h : numbered n l) (hr : r.seq = n) :
    numbered (nextSequence n) (l ++ [r]) := by
  induction l with
  | nil => exact hr ▸ rfl
  | cons a l ih =>
    cases l with
    | nil => exact ⟨hr.trans h, hr ▸ rfl⟩
    | cons b l => exact ⟨h.1, ih h.2⟩

theorem numbered_tail {n : Nat} {l : List AttemptRecord} (h : numbered n l) : numbered n l.tail := by
  cases l with
  | nil => exact h
  | cons a l =>
    cases l with
    | nil => trivial
    | cons b l => exact h.2

theorem numbered_pushBounded {n limit : Nat} {l : List AttemptRecord} {r : AttemptRecord} (h : numbered n l) (hr : r.seq = n) :
    numbered (nextSequence n) (pushBounded limit l r) := by
  unfold pushBounded
  split
  · exact numbered_append h hr
  · exact numbered_append (numbered_tail h) hr

theorem mem_pushBounded {α : Type} {limit : Nat} {l : List α} {x y : α} (h : y ∈ pushBounded limit l x) : y ∈ l ∨ y = x := by
  unfold pushBounded at h
  split at h
  · exact (List.mem_append.mp h).imp_right List.mem_singleton.mp
  · exact (List.mem_append.mp h).imp List.mem_of_mem_tail List.mem_singleton.mp

theorem listsSound_appendRecord {p : Part} (tag : Option Tag) (f : AttemptFields) (o : AttemptOutcome) (d : Option Nat)
    (i : Option Word32) (hp : listsSound p) : listsSound (appendRecord tag f o d i p) := by
  obtain ⟨hlen, hnum, hlow, hhigh, hseq, hrest⟩ := hp
  unfold listsSound
  rw [appendRecord_sre]
  refine ⟨pushBounded_length (by decide) hlen _, numbered_pushBounded hnum rfl, ?_, ?_, fun r hr => ?_, hrest⟩
  · dsimp only
    split <;> omega
  · dsimp only
    split <;> omega
  · obtain hr | rfl := mem_pushBounded hr
    · exact hseq r hr
    · exact ⟨hlow, hhigh⟩

theorem listsSound_recordDefect {p : Part} (d : Defect) (hp : listsSound p) : listsSound (recordDefect d p) := by
  obtain ⟨hlen, hnum, hlow, hhigh, hseq, hspent, hcount, hdef, hdrop⟩ := hp
  unfold recordDefect
  split
  · rename_i hlt
    exact ⟨hlen, hnum, hlow, hhigh, hseq, hspent, hcount, by rw [List.length_append]; exact hlt, hdrop⟩
  · exact ⟨hlen, hnum, hlow, hhigh, hseq, hspent, hcount, hdef, satSucc_le _ _ hdrop⟩

theorem listsSound_count {p : Part} (hp : listsSound p) :
    listsSound { p with sre := { p.sre with releaseCount := satSucc 0xFF p.sre.releaseCount } } := by
  obtain ⟨hlen, hnum, hlow, hhigh, hseq, hspent, hcount, hrest⟩ := hp
  exact ⟨hlen, hnum, hlow, hhigh, hseq, hspent, satSucc_le _ _ hcount, hrest⟩

theorem listsSound_release {p : Part} (kind : ReleaseKind) (tag : Option Tag) (hp : listsSound p) :
    listsSound (release kind tag p) := by
  unfold release
  split
  · exact hp
  · exact listsSound_appendRecord tag _ .released none _ (listsSound_count hp)

theorem listsSound_spent {p : Part} {l : List CandidateKey} {n : Nat} (hl : l.length ≤ Config.spentCapacity) (hn : n ≤ 0xFF)
    (hp : listsSound p) : listsSound { p with sre := { p.sre with spent := l, releaseCount := n } } := by
  obtain ⟨hlen, hnum, hlow, hhigh, hseq, -, -, hrest⟩ := hp
  exact ⟨hlen, hnum, hlow, hhigh, hseq, hl, hn, hrest⟩

theorem listsSound_restart {p : Part} (hp : listsSound p) : listsSound (takeRestart p) :=
  listsSound_congr (p := { p with sre := { p.sre with spent := [], releaseCount := 0 } }) (withdrawQuestion_log p)
    (withdrawQuestion_nextSeq p) rfl rfl (withdrawQuestion_mck p ▸ rfl) (withdrawQuestion_mck p ▸ rfl)
    (listsSound_spent (Nat.zero_le _) (Nat.zero_le _) hp)

theorem listsSound_keptByVerbs : KeptByVerbs listsSound where
  frame f hp := listsSound_congr f.log f.nextSeq f.spent f.releaseCount f.defects f.dropped hp
  raise _ _ _ hp := hp
  appendRecord _ _ _ _ _ hp := listsSound_appendRecord _ _ _ _ _ hp
  handQuestion _ hp := hp
  dropQuestion hp := hp
  replyIdle _ _ hp := hp
  recordDefect _ hp := listsSound_recordDefect _ hp
  noDefects _ hp := by
    obtain ⟨hlen, hnum, hlow, hhigh, hseq, hspent, hcount, -⟩ := hp
    exact ⟨hlen, hnum, hlow, hhigh, hseq, hspent, hcount, Nat.zero_le _, Nat.zero_le _⟩
  release _ _ hp := listsSound_release _ _ hp
  holdTarget {p} hp := by
    unfold listsSound
    rwa [holdTarget_sre, holdTarget_mck]
  addSpent {p} k hp := by
    obtain ⟨-, -, -, -, -, hspent, hcount, -⟩ := id hp
    exact listsSound_spent (pushBounded_length (by decide) hspent k) hcount hp
  reply _ _ hp := hp
  takeSlot _ _ _ _ hp := hp
  clearSpent hp := listsSound_spent (Nat.zero_le _) (Nat.zero_le _) hp
  settings _ _ hp := hp
  beginSave _ hp := hp
  saveDone _ hp := hp
  saveFailed _ hp := hp
  replyRate _ _ hp := hp
  handTarget _ _ hp := hp
  handLast _ _ hp := hp

theorem listsSound_keptByResets : KeptByResets fun _ _ => listsSound where
  toKeptByLines := keptByLines_of_verbs listsSound_keptByVerbs fun _ _ _ hp => hp
  powerReset _ _ := ⟨Nat.zero_le _, trivial, Nat.le_refl 1, Nat.le_add_left 1 0xFFFE, nofun, Nat.zero_le _, Nat.zero_le _, Nat.zero_le _,
    Nat.zero_le _⟩
  settledSettings hp := hp
  settledRate _ hp := hp
  settled hp := hp
  restart hp := listsSound_restart hp

/-- Settles O55: each list's own operations keep its limit, and the log its numbers. -/
theorem listsStaySound : Obligations.ListsStaySound := keptByEveryStep_of_resets listsSound_keptByResets

end Sys2Proof.Proofs

/-! PROOFS. The conditions on the console's and the target line's queues, kept by every step. -/

namespace Sys2Proof.Proofs

open Sys2Proof Sys2Proof.Machine

/-! ### The console -/

/-- The console's limits, with the bound `m` on the lines that wait while no reply does; `d` tells whether a verb is yet to give its
single reply. -/
structure ConsoleOk (m : Nat) (d : Bool) (c : Console) : Prop where
  line : c.line.kept.length ≤ Config.lineLength
  lines : c.lines.length ≤ Config.lineCapacity
  replies : c.replies.length ≤ 2
  defers : d = true → c.replies.length ≤ 1
  waiting : c.replies = [] → c.lines.length ≤ m
  notices : c.notices.length ≤ Config.noticeCapacity
  lost : c.lost ≤ 0xFF
  full : 0 < c.lost → c.notices.length = Config.noticeCapacity
  free : c.tx = none → c.replies = [] ∧ c.question = none ∧ c.notices = []

theorem consoleSound_iff {p : Part} : consoleSound p ↔ ConsoleOk 0 (defersReply p.sup.verbRun) p.con := by
  constructor
  · rintro ⟨hline, hlines, hreplies, hdefers, hwait, hnotices, hlost, hfull, hfree⟩
    refine ⟨hline, hlines, hreplies, hdefers, fun hr => ?_, hnotices, hlost, hfull, hfree⟩
    refine Classical.byContradiction fun hl => ?_
    exact hwait (fun h0 => hl (by rw [h0]; exact Nat.le_refl 0)) hr
  · intro h
    exact ⟨h.line, h.lines, h.replies, h.defers, fun hl hr => hl (List.length_eq_zero_iff.mp (Nat.le_zero.mp (h.waiting hr))),
      h.notices, h.lost, h.full, h.free⟩

namespace ConsoleOk

variable {m : Nat} {d : Bool} {c : Console}

/-- With no further reply to come the bound on the replies is that of any state. -/
theorem mono {d' : Bool} (h : ConsoleOk m d c) (hd : d' = true → d = true) : ConsoleOk m d' c :=
  { h with defers := fun hd' => h.defers (hd hd') }

/-- The lost count is 0 while the transmitter is free. -/
theorem lost_of_free (h : ConsoleOk m d c) (ht : c.tx = none) : c.lost = 0 := by
  refine Classical.byContradiction fun hl => ?_
  have hf := h.full (Nat.pos_of_ne_zero hl)
  rw [(h.free ht).2.2] at hf
  cases hf

theorem notice (h : ConsoleOk m d c) (n : Record) : ConsoleOk m d (arbitrateConsole (queueNotice n c)) := by
  obtain ht | ⟨x, ht⟩ := Option.eq_none_or_eq_some c.tx
  · obtain ⟨hr, hq, hn⟩ := h.free ht
    have hl := h.lost_of_free ht
    have he : arbitrateConsole (queueNotice n c) = { c with tx := some { record := some n } } := by
      rw [queueNotice, hn, if_pos (by decide), arbitrateConsole]
      simp only [ht, hr, hq, reportLost, hl]
      simp
    rw [he]
    exact { h with free := nofun }
  · have hb : (queueNotice n c).tx = some x := by
      unfold queueNotice
      split <;> exact ht
    rw [arbitrateConsole_busy hb, queueNotice]
    split
    · rename_i hlt
      have hn : (c.notices ++ [n]).length ≤ Config.noticeCapacity := by rw [List.length_append]; exact hlt
      refine { h with notices := hn, full := fun hl => ?_, free := fun hx => ?_ }
      · exact absurd (h.full hl) (Nat.ne_of_lt hlt)
      · rw [ht] at hx
        cases hx
    · rename_i hge
      exact { h with
        lost := satSucc_le _ _ h.lost
        full := fun _ => Nat.le_antisymm h.notices (Nat.not_lt.mp hge) }

theorem question (h : ConsoleOk m d c) (q : Record) : ConsoleOk m d (arbitrateConsole { c with question := some q }) := by
  obtain ht | ⟨x, ht⟩ := Option.eq_none_or_eq_some c.tx
  · obtain ⟨hr, -, -⟩ := h.free ht
    have he : arbitrateConsole { c with question := some q } = { c with tx := some { record := some q }, question := none } := by
      rw [arbitrateConsole]
      simp only [ht, hr]
    rw [he]
    exact { h with free := nofun }
  · have he : arbitrateConsole { c with question := some q } = { c with question := some q } := arbitrateConsole_busy (i := x) ht
    rw [he]
    exact { h with free := fun hx => by cases ht.symm.trans hx }

/-- A reply is taken as long as no two wait. -/
theorem reply {d' : Bool} (h : ConsoleOk m d c) (hr : c.replies.length ≤ 1) (hd : d' = true → c.replies = []) (i : ConsoleItem) :
    ConsoleOk m d' (arbitrateConsole { c with replies := c.replies ++ [i] }) := by
  obtain ht | ⟨x, ht⟩ := Option.eq_none_or_eq_some c.tx
  · obtain ⟨hr, hq, hn⟩ := h.free ht
    have he : arbitrateConsole { c with replies := c.replies ++ [i] } = { c with tx := some i, replies := [] } :=
      arbitrateConsole_reply (c := { c with replies := c.replies ++ [i] }) ht (congrArg (· ++ [i]) hr)
    rw [he]
    exact { h with
      replies := Nat.zero_le _
      defers := fun _ => Nat.zero_le _
      waiting := fun _ => h.waiting hr
      free := nofun }
  · have he : arbitrateConsole { c with replies := c.replies ++ [i] } = { c with replies := c.replies ++ [i] } :=
      arbitrateConsole_busy (i := x) ht
    rw [he]
    exact { h with
      replies := by simpa using hr
      defers := fun hx => by simp [hd hx]
      waiting := fun hx => by simp at hx
      free := fun hx => by cases ht.symm.trans hx }

/-- The transmitter freed and given its next record: the lines that wait are as many as were. -/
theorem freed (h : ConsoleOk m d c) :
    ConsoleOk c.lines.length d (arbitrateConsole { c with tx := none }) := by
  have hw : ConsoleOk c.lines.length d c := { h with waiting := fun _ => Nat.le_refl _ }
  unfold arbitrateConsole
  dsimp only
  split
  · rename_i r rest hr
    have hrl : rest.length + 1 = c.replies.length := by rw [hr, List.length_cons]
    exact { hw with
      replies := by have := h.replies; dsimp only; omega
      defers := fun hd => by have := h.defers hd; dsimp only; omega
      waiting := fun _ => Nat.le_refl _
      free := nofun }
  · split
    · exact { hw with free := nofun }
    · split
      · rename_i n rest hn
        have hnl : rest.length + 1 = c.notices.length := by rw [hn, List.length_cons]
        have hcap := h.notices
        have hlen : rest.length < Config.noticeCapacity := by omega
        unfold reportLost
        dsimp only
        split
        · exact { hw with
            notices := by rw [List.length_append]; exact hlen
            lost := Nat.zero_le _
            full := fun hx => absurd hx (Nat.lt_irrefl 0)
            free := nofun }
        · rename_i hl
          exact { hw with
            notices := Nat.le_of_lt hlen
            full := fun hx => absurd ⟨hx, hlen⟩ hl
            free := nofun }
      · rename_i hr _ hq _ hn
        exact { hw with free := fun _ => ⟨hr, hq, hn⟩ }

theorem requestRate (rate : Nat) (h : ConsoleOk m d c) : ConsoleOk m d (requestRate rate c).2 := by
  have hu : ∀ r, ConsoleOk m d { unmarkRate c with pendingRate := r } := fun r =>
    { h with
      replies := by simpa [unmarkRate] using h.replies
      defers := by simpa [unmarkRate] using h.defers
      waiting := by simpa [unmarkRate] using h.waiting
      free := by simpa [unmarkRate] using h.free }
  unfold Machine.requestRate
  split
  · exact hu _
  · split
    · exact hu _
    · exact h

theorem unmarkRestart (h : ConsoleOk m d c) : ConsoleOk m d (unmarkRestart c) :=
  { h with
    replies := by simpa [Machine.unmarkRestart] using h.replies
    defers := by simpa [Machine.unmarkRestart] using h.defers
    waiting := by simpa [Machine.unmarkRestart] using h.waiting
    free := by simpa [Machine.unmarkRestart] using h.free }

theorem withoutQuestion (h : ConsoleOk m d c) : ConsoleOk m d { c with question := none } :=
  { h with free := fun ht => ⟨(h.free ht).1, rfl, (h.free ht).2.2⟩ }

theorem settleRate (rate : Nat) (h : ConsoleOk m d c) : ConsoleOk m d (settleRate rate c) := by
  unfold Machine.settleRate
  split
  · exact h
  · split
    · exact { h with }
    · exact { h with free := nofun }

theorem switchRate (h : ConsoleOk m d c) : ConsoleOk m d (switchRate c) := by
  unfold Machine.switchRate
  split
  · exact { h with }
  · exact h

end ConsoleOk

/-- The condition on the console that runs, verbs and lines keep. -/
def ConsoleKept (m _n : Nat) (p : Part) : Prop := ConsoleOk m (defersReply p.sup.verbRun) p.con

theorem requestRate_replies {c : Console} (h : c.replies = []) (rate : Nat) : (requestRate rate c).2.replies = [] := by
  unfold Machine.requestRate
  split
  · simp [unmarkRate, h]
  · split
    · simp [unmarkRate, h]
    · exact h

theorem consoleKept_release {m n : Nat} {p : Part} (kind : ReleaseKind) (tag : Option Tag) (hp : ConsoleKept m n p) :
    ConsoleKept m n (release kind tag p) := by
  unfold release
  split
  · exact hp
  · exact (ConsoleOk.notice (ConsoleOk.mono (d' := false) hp nofun) _).notice _

theorem consoleKept_restart {p : Part} (hp : ConsoleKept 0 0 p) : ConsoleKept 0 0 (takeRestart p) := by
  have hw : ConsoleOk 0 (defersReply p.sup.verbRun) (withdrawQuestion p).con := by
    unfold withdrawQuestion
    split
    · exact hp
    · exact (ConsoleOk.withoutQuestion hp).notice _
  exact (hw.unmarkRestart).mono nofun

theorem consoleKept_keptByVerbs (m n : Nat) : KeptByVerbs (ConsoleKept m n) where
  frame {p q} f hp := by
    unfold ConsoleKept
    rw [f.con]
    exact ConsoleOk.mono hp f.defers
  raise _ _ _ hp := ConsoleOk.notice hp _
  appendRecord _ _ _ _ _ hp := ConsoleOk.notice hp _
  handQuestion _ hp := ConsoleOk.question hp _
  dropQuestion hp := ConsoleOk.withoutQuestion hp
  replyIdle i hd hp := ConsoleOk.reply hp (hp.defers hd) (d' := false) nofun i
  recordDefect _ hp := hp
  noDefects _ hp := hp
  release _ _ hp := consoleKept_release _ _ hp
  holdTarget {p} hp := by
    unfold ConsoleKept
    rwa [holdTarget_con, holdTarget_sup]
  addSpent _ hp := hp
  reply i hr hp := ConsoleOk.reply hp (by rw [hr]; exact Nat.zero_le 1) (fun _ => hr) i
  takeSlot _ _ _ hr hp := { hp with defers := fun _ => by rw [takeSlot_con, hr]; exact Nat.zero_le 1 }
  clearSpent hp := hp
  settings _ _ hp := hp
  beginSave _ hp := hp
  saveDone _ hp := ConsoleOk.notice hp _
  saveFailed _ hp := ConsoleOk.notice hp _
  replyRate _ hr hp :=
    have he := requestRate_replies hr _
    ConsoleOk.reply (ConsoleOk.requestRate _ hp) (by rw [he]; exact Nat.zero_le 1) (fun _ => he) _
  handTarget _ _ hp := hp
  handLast _ _ hp := hp

theorem consoleKept_keptByLines : KeptByLines ConsoleKept where
  verbs := consoleKept_keptByVerbs
  consoleTaken {m n p q rest} hl hr hp := by
    have hlen : p.con.lines.length = rest.length + 1 := by rw [hl, List.length_cons]
    exact { hp with
      lines := Nat.le_of_succ_le (Nat.le_trans (Nat.le_of_eq hlen.symm) hp.lines)
      waiting := fun _ => Nat.le_of_succ_le_succ (Nat.le_trans (Nat.le_of_eq hlen.symm) (hp.waiting hr)) }
  consoleDone h hp := { hp with
    waiting := fun hr => by
      obtain hl | hn := h
      · rw [hl]
        exact Nat.le_refl 0
      · exact absurd hr hn }
  consoleOffered {n p} q hlt hp :=
    have hlen : (p.con.lines ++ [q]).length = p.con.lines.length + 1 := by rw [List.length_append, List.length_singleton]
    { hp with
      lines := Nat.le_trans (Nat.le_of_eq hlen) hlt
      waiting := fun _ => Nat.le_of_eq hlen }
  targetTaken _ hp := hp
  targetDone _ hp := hp
  targetOffered _ _ _ hp := hp
  consoleLine hk hp := { hp with line := hk hp.line }
  targetLine _ _ hp := hp
  consoleWait _ hp := { hp with }
  targetWait _ hp := hp
  consoleFreed _ hp := ConsoleOk.freed hp
  targetFreed _ hp := hp
  switchRate hp := ConsoleOk.switchRate hp

theorem consoleKept_keptByResets : KeptByResets ConsoleKept where
  toKeptByLines := consoleKept_keptByLines
  powerReset _ _ := ⟨Nat.zero_le _, Nat.zero_le _, Nat.zero_le _, nofun, fun _ => Nat.le_refl 0, Nat.zero_le _, Nat.zero_le _,
    fun h => absurd h (Nat.lt_irrefl 0), nofun⟩
  settledSettings hp := hp
  settledRate _ hp := ConsoleOk.settleRate _ hp
  settled hp := hp
  restart hp := consoleKept_restart hp

/-- Settles O56: the condition with a bound on the lines still to be taken is kept by all that a command can do. -/
theorem consoleStaysSound : Obligations.ConsoleStaysSound := fun s t hs hstep =>
  consoleSound_iff.mpr (keptByEveryStep_of_resets consoleKept_keptByResets s t (consoleSound_iff.mp hs) hstep)

/-! ### The target line -/

/-- The target line's limits, with the bound `n` on the lines that wait while RLU accepts requests and no reply waits. -/
structure TargetOk (n : Nat) (t : Target) : Prop where
  line : t.line.kept.length ≤ Config.lineLength
  lines : t.lines.length ≤ Config.lineCapacity
  queue : t.queue.length ≤ 1
  closed : t.isOpen = false → t.line = ⟨[], .nothing⟩ ∧ t.lines = [] ∧ t.queue = [] ∧ t.tx = none
  free : t.tx = none → t.queue = []
  forms : ∀ i ∈ t.queue, i.record.form ≠ .notice
  waiting : t.queue = [] → t.accepting = true → t.lines.length ≤ n

theorem targetSound_iff {p : Part} : targetSound p ↔ TargetOk 0 p.tgt := by
  constructor
  · rintro ⟨hline, hlines, hqueue, hclosed, hfree, hforms, hwait⟩
    refine ⟨hline, hlines, hqueue, hclosed, hfree, hforms, fun hq ha => ?_⟩
    refine Classical.byContradiction fun hl => ?_
    obtain hn | hn := hwait fun h0 => hl (by rw [h0]; exact Nat.le_refl 0)
    · exact hn hq
    · cases ha.symm.trans hn
  · intro h
    refine ⟨h.line, h.lines, h.queue, h.closed, h.free, h.forms, fun hl => ?_⟩
    refine Classical.byContradiction fun hn => ?_
    obtain ⟨hq, ha⟩ := not_or.mp hn
    exact hl (List.length_eq_zero_iff.mp (Nat.le_zero.mp (h.waiting (Classical.not_not.mp hq) (by simpa using ha))))

namespace TargetOk

variable {n : Nat} {t : Target}

theorem ofClosed (n rate : Nat) : TargetOk n { closedTarget with rate := rate } :=
  ⟨Nat.zero_le _, Nat.zero_le _, Nat.zero_le _, fun _ => ⟨rfl, rfl, rfl, rfl⟩, fun _ => rfl, nofun, fun _ _ => Nat.zero_le _⟩

/-- While RLN may take a line no reply waits: a START record is being sent as soon as it is handed over. -/
theorem queue_of_takes (h : TargetOk n t) (ht : targetTakes t = true) : t.queue = [] := by
  simp only [targetTakes, Bool.and_eq_true, List.all_eq_true, decide_eq_true_eq] at ht
  exact List.eq_nil_iff_forall_not_mem.mpr fun i hi => h.forms i hi (ht.2 i hi)

/-- A reply handed over with nothing waiting ahead of it. -/
theorem hand {i : TargetItem} (h : TargetOk n t) (ho : t.isOpen = true) (hq : t.queue = []) (hi : i.record.form ≠ .notice) :
    TargetOk n (startTarget { t with queue := t.queue ++ [i] }) := by
  rw [hq]
  obtain ht | ⟨x, ht⟩ := Option.eq_none_or_eq_some t.tx
  · have he : startTarget { t with queue := [] ++ [i] } = { t with tx := some i, queue := [] } := by
      simp only [startTarget, ht, List.nil_append]
    rw [he]
    exact { h with
      queue := Nat.zero_le _
      closed := fun hc => by cases ho.symm.trans hc
      free := nofun
      forms := nofun
      waiting := fun _ => h.waiting hq }
  · have he : startTarget { t with queue := [] ++ [i] } = { t with queue := [i] } := by
      simp only [startTarget, ht, List.nil_append]
    rw [he]
    exact { h with
      queue := Nat.le_refl 1
      closed := fun hc => by cases ho.symm.trans hc
      free := fun hx => by cases ht.symm.trans hx
      forms := fun j hj => by rwa [List.mem_singleton.mp hj]
      waiting := nofun }

theorem stopAccepting (h : TargetOk n t) : TargetOk n { t with accepting := false } :=
  { h with waiting := nofun }

theorem freed (h : TargetOk n t) (ht : t.isOpen = true) : TargetOk t.lines.length (startTarget { t with tx := none }) := by
  have hw : TargetOk t.lines.length t := { h with waiting := fun _ _ => Nat.le_refl _ }
  obtain hq | ⟨r, rest, hq⟩ : t.queue = [] ∨ ∃ r rest, t.queue = r :: rest := by
    cases t.queue <;> simp
  · have he : startTarget { t with tx := none } = { t with tx := none } := by simp only [startTarget, hq]
    rw [he]
    exact { hw with
      closed := fun hc => by cases ht.symm.trans hc
      free := fun _ => hq }
  · have hr : rest = [] := by
      have := h.queue
      rw [hq, List.length_cons] at this
      exact List.length_eq_zero_iff.mp (by omega)
    have he : startTarget { t with tx := none } = { t with tx := some r, queue := [] } := by simp only [startTarget, hq, hr]
    rw [he]
    exact { hw with
      queue := Nat.zero_le _
      closed := fun hc => by cases ht.symm.trans hc
      free := nofun
      forms := nofun
      waiting := fun _ _ => Nat.le_refl _ }

end TargetOk

/-- The condition on the target line that runs, verbs and lines keep. -/
def TargetKept (_m n : Nat) (p : Part) : Prop := TargetOk n p.tgt

theorem targetKept_release {m n : Nat} {p : Part} (kind : ReleaseKind) (tag : Option Tag) (hp : TargetKept m n p) :
    TargetKept m n (release kind tag p) := by
  unfold release
  split
  · exact hp
  · exact ⟨Nat.zero_le _, Nat.zero_le _, Nat.zero_le _, nofun, nofun, nofun, fun _ _ => Nat.zero_le _⟩

theorem targetTakes_open {t : Target} (h : targetTakes t = true) : t.isOpen = true := by
  simp only [targetTakes, Bool.and_eq_true] at h
  exact h.1.1

theorem targetKept_keptByVerbs (m n : Nat) : KeptByVerbs (TargetKept m n) where
  frame {p q} f hp := by
    unfold TargetKept
    rwa [f.tgt]
  raise _ _ _ hp := hp
  appendRecord _ _ _ _ _ hp := hp
  handQuestion _ hp := hp
  dropQuestion hp := hp
  replyIdle _ _ hp := hp
  recordDefect _ hp := hp
  noDefects _ hp := hp
  release _ _ hp := targetKept_release _ _ hp
  holdTarget {p} _ := by
    unfold TargetKept
    rw [(holdTarget_spec p).2.1]
    exact TargetOk.ofClosed _ _
  addSpent _ hp := hp
  reply _ _ hp := hp
  takeSlot _ _ _ _ hp := hp
  clearSpent hp := hp
  settings _ _ hp := hp
  beginSave _ hp := hp
  saveDone _ hp := hp
  saveFailed _ hp := hp
  replyRate _ _ hp := hp
  handTarget hi ht hp := TargetOk.hand hp (targetTakes_open ht) (TargetOk.queue_of_takes hp ht) hi
  handLast hi ht hp :=
    have ho := targetTakes_open ht
    have hq := TargetOk.queue_of_takes hp ht
    TargetOk.hand (TargetOk.stopAccepting hp) ho hq hi

theorem targetKept_keptByLines : KeptByLines TargetKept where
  verbs := targetKept_keptByVerbs
  consoleTaken _ _ hp := hp
  consoleDone _ hp := hp
  consoleOffered _ _ hp := hp
  targetTaken {m n p q rest} hl hp := by
    have hlen : p.tgt.lines.length = rest.length + 1 := by rw [hl, List.length_cons]
    exact { hp with
      lines := Nat.le_of_succ_le (Nat.le_trans (Nat.le_of_eq hlen.symm) hp.lines)
      closed := fun hc => by cases hl.symm.trans (hp.closed hc).2.1
      waiting := fun hq ha => Nat.le_of_succ_le_succ (Nat.le_trans (Nat.le_of_eq hlen.symm) (hp.waiting hq ha)) }
  targetDone {m n p} h hp := { hp with
    waiting := fun hq ha => by
      have hl : p.tgt.lines = [] := by
        obtain hl | ht := h
        · exact hl
        · have ho : p.tgt.isOpen = false := by simpa [targetTakes, hq, ha] using ht
          exact (hp.closed ho).2.1
      rw [hl]
      exact Nat.le_refl 0 }
  targetOffered {m p} q ho hlt hp :=
    have hlen : (p.tgt.lines ++ [q]).length = p.tgt.lines.length + 1 := by rw [List.length_append, List.length_singleton]
    { hp with
      lines := Nat.le_trans (Nat.le_of_eq hlen) hlt
      closed := fun hc => by cases ho.symm.trans hc
      waiting := fun _ _ => Nat.le_of_eq hlen }
  consoleLine _ hp := hp
  targetLine ho hk hp := { hp with
    line := hk hp.line
    closed := fun hc => by cases ho.symm.trans hc }
  consoleWait _ hp := hp
  targetWait _ hp := { hp with }
  consoleFreed _ hp := hp
  targetFreed {p i} ht hp := by
    refine TargetOk.freed hp ?_
    cases ho : p.tgt.isOpen with
    | true => rfl
    | false => cases ht.symm.trans (hp.closed ho).2.2.2
  switchRate hp := hp

theorem targetKept_keptByResets : KeptByResets TargetKept where
  toKeptByLines := targetKept_keptByLines
  powerReset _ _ := TargetOk.ofClosed _ _
  settledSettings hp := hp
  settledRate _ hp := hp
  settled hp := hp
  restart _ := TargetOk.ofClosed _ _

/-- Settles O57: the condition with a bound on the lines still to be taken is kept by all that a command can do. -/
theorem targetLineStaysSound : Obligations.TargetLineStaysSound := fun s t hs hstep =>
  targetSound_iff.mpr (keptByEveryStep_of_resets targetKept_keptByResets s t (targetSound_iff.mp hs) hstep)

end Sys2Proof.Proofs

/-! PROOFS. The condition on INIT, the settling of the settings and the copy records, kept by every step: outside INIT it is a
condition on the settings store, and in INIT nothing but the console and the settings memory is at work. -/

namespace Sys2Proof.Proofs

open Sys2Proof Sys2Proof.Machine

/-! ### The stored copies -/

/-- What the condition on the copies says of a settings store; `settled` tells whether the copy records must tell what the areas
hold. -/
structure CopiesOk (settled : Bool) (t : Sst) : Prop where
  apart : ∀ g, validGeneration t.areaA = some g → validGeneration t.areaB = some g → False
  told : settled = true → t.recordA = validGeneration t.areaA ∧ t.recordB = validGeneration t.areaB
  saving : ∀ v, t.saving = some v →
    areaCopy t v.area = none ∧ ∀ g, validGeneration (areaCopy t v.area.other) = some g → g < v.generation

theorem copiesSound_iff {p : Part} : copiesSound p ↔ CopiesOk p.sup.settled p.sst :=
  ⟨fun ⟨ha, ht, hs⟩ => ⟨ha, ht, hs⟩, fun h => ⟨h.apart, h.told, h.saving⟩⟩

/-- A copy that a SAVE programs is valid with the SAVE's generation (R160, R163). -/
theorem validGeneration_storedCopy (g : Nat) (s : Settings) : validGeneration (some (storedCopy g s)) = some g := by
  have hv : (storedCopy g s).valid = true := decide_eq_true rfl
  rw [validGeneration, validCopy, if_pos hv]
  rfl

theorem validGeneration_none : validGeneration none = none := rfl

/-- The newest generation is at least that of either record (R160). -/
theorem le_newestGeneration (t : Sst) :
    (∀ g, t.recordA = some g → g ≤ newestGeneration t) ∧ ∀ g, t.recordB = some g → g ≤ newestGeneration t := by
  unfold newestGeneration
  constructor
  · intro g h
    rw [h]
    exact Nat.le_max_left ..
  · intro g h
    rw [h]
    exact Nat.le_max_right ..

namespace CopiesOk

variable {b : Bool} {t : Sst}

theorem beginSave {p : Part} (tag : Option Tag) (h : CopiesOk true p.sst) : CopiesOk b (beginSave tag p).sst := by
  obtain ⟨hla, hlb⟩ := le_newestGeneration p.sst
  obtain ⟨hta, htb⟩ := h.told rfl
  unfold Machine.beginSave
  cases saveTarget p.sst with
  | a =>
    refine ⟨fun _ => nofun, fun _ => ⟨rfl, htb⟩, ?_⟩
    rintro v ⟨⟩
    exact ⟨rfl, fun g hg => Nat.lt_succ_of_le (hlb g (htb.trans hg))⟩
  | b =>
    refine ⟨fun _ _ => nofun, fun _ => ⟨hta, rfl⟩, ?_⟩
    rintro v ⟨⟩
    exact ⟨rfl, fun g hg => Nat.lt_succ_of_le (hla g (hta.trans hg))⟩

theorem saveDone {p : Part} {v : Save} (hv : p.sst.saving = some v) (h : CopiesOk b p.sst) : CopiesOk b (saveDone v p).sst := by
  obtain ⟨-, hother⟩ := h.saving v hv
  have hg := validGeneration_storedCopy v.generation v.snapshot
  unfold Machine.saveDone
  cases ha : v.area with
  | a =>
    rw [ha] at hother
    refine ⟨fun g h1 h2 => ?_, fun hb => ⟨hg.symm, (h.told hb).2⟩, fun _ => nofun⟩
    cases hg.symm.trans h1
    exact Nat.lt_irrefl _ (hother _ h2)
  | b =>
    rw [ha] at hother
    refine ⟨fun g h1 h2 => ?_, fun hb => ⟨(h.told hb).1, hg.symm⟩, fun _ => nofun⟩
    cases hg.symm.trans h2
    exact Nat.lt_irrefl _ (hother _ h1)

theorem saveFailed (h : CopiesOk b t) : CopiesOk b { t with saving := none } := ⟨h.apart, h.told, fun _ => nofun⟩

theorem choose (h : CopiesOk b t) : CopiesOk true (chooseSettings t) := by
  unfold chooseSettings
  dsimp only
  split
  · exact ⟨h.apart, fun _ => ⟨rfl, rfl⟩, h.saving⟩
  · split
    · exact ⟨h.apart, fun _ => ⟨rfl, rfl⟩, h.saving⟩
    · exact ⟨h.apart, fun _ => ⟨rfl, rfl⟩, h.saving⟩

end CopiesOk

/-! ### Outside INIT -/

/-- Outside INIT the settings are settled and the copy records tell what the areas hold. -/
structure Running (p : Part) : Prop where
  mode : p.sup.mode ≠ .init
  settled : p.sup.settled = true
  copies : CopiesOk true p.sst

theorem release_settled (kind : ReleaseKind) (tag : Option Tag) (p : Part) :
    (release kind tag p).sup.settled = p.sup.settled := by
  unfold release
  split <;> rfl

theorem running_release {p : Part} (kind : ReleaseKind) (tag : Option Tag) (hp : Running p) : Running (release kind tag p) := by
  refine ⟨?_, (release_settled ..).trans hp.settled, release_sst kind tag p ▸ hp.copies⟩
  unfold release
  split
  · exact hp.mode
  · exact nofun

theorem running_keptByVerbs : KeptByVerbs Running where
  frame {p q} f hp := by
    refine ⟨?_, f.settled.trans hp.settled, f.sst ▸ hp.copies⟩
    obtain hm | hm := f.mode
    · exact hm ▸ hp.mode
    · exact hm
  raise _ _ _ hp := { hp with }
  appendRecord _ _ _ _ _ hp := { hp with }
  handQuestion _ hp := { hp with }
  dropQuestion hp := { hp with }
  replyIdle _ _ hp := { hp with mode := nofun }
  recordDefect _ hp := { hp with }
  noDefects _ hp := { hp with }
  release _ _ hp := running_release _ _ hp
  holdTarget {p} hp := by
    have hs := holdTarget_sup p
    have ht := holdTarget_sst p
    exact ⟨hs ▸ hp.mode, hs ▸ hp.settled, ht ▸ hp.copies⟩
  addSpent _ hp := { hp with }
  reply _ _ hp := { hp with }
  takeSlot _ _ _ _ hp := { hp with mode := nofun }
  clearSpent hp := { hp with }
  settings _ _ hp := { hp with copies := { hp.copies with } }
  beginSave _ hp := { hp with copies := hp.copies.beginSave _ }
  saveDone hv hp := { hp with copies := hp.copies.saveDone hv }
  saveFailed _ hp := { hp with copies := hp.copies.saveFailed }
  replyRate _ _ hp := { hp with }
  handTarget _ _ hp := { hp with }
  handLast _ _ hp := { hp with }

theorem running_keptByLines : KeptByLines fun _ _ => Running :=
  keptByLines_of_verbs running_keptByVerbs fun _ _ _ hp => { hp with }

/-! ### In INIT -/

/-- In INIT nothing but the console and the settings memory is at work. -/
structure Resting (p : Part) : Prop where
  mode : p.sup.mode = .init
  slot : p.sup.slot = none
  verbRun : p.sup.verbRun = none
  runTag : p.sup.runTag = none
  restart : p.sup.restartPending = false
  abort : p.sup.abortPending = false
  run : p.sre.run = none
  question : p.sre.question = none
  questionTimer : p.sre.questionTimer = none
  waitTimer : p.sre.waitTimer = none
  check : p.mck.run = none
  txn : p.mmp.txn = none
  plan : p.ldr.plan = none
  image : p.ldr.image = .nothing
  treset : p.rlu.treset = .asserted
  released : p.rlu.released = none
  window : p.rlu.windowTimer = none
  closed : p.tgt.isOpen = false
  tx : p.tgt.tx = none
  quiet : portsQuiet p
  copies : CopiesOk p.sup.settled p.sst

theorem Resting.idle {p : Part} (h : Resting p) : Idle p :=
  ⟨h.slot, h.verbRun, h.runTag, h.restart, h.abort, h.run, h.question, h.questionTimer, h.waitTimer, h.check, h.txn, h.plan,
    h.image, h.treset, h.released, h.window, h.closed, h.tx, h.quiet⟩

theorem Resting.of_idle {p : Part} (hm : p.sup.mode = .init) (h : Idle p) (hc : CopiesOk p.sup.settled p.sst) : Resting p := by
  obtain ⟨h1, h2, h3, h4, h5, h6, h7, h8, h9, h10, h11, h12, h13, h14, h15, h16, h17, h18, h19⟩ := h
  exact ⟨hm, h1, h2, h3, h4, h5, h6, h7, h8, h9, h10, h11, h12, h13, h14, h15, h16, h17, h18, h19, hc⟩

/-- The condition on INIT and the copies: either of the two. -/
theorem initIdle_iff {p : Part} : initIdle p ∧ copiesSound p ↔ Running p ∨ Resting p := by
  constructor
  · rintro ⟨⟨hidle, hset⟩, hc⟩
    have hc := copiesSound_iff.mp hc
    by_cases hm : p.sup.mode = .init
    · exact .inr (.of_idle hm (hidle hm) hc)
    · have hs : p.sup.settled = true := by
        refine Classical.byContradiction fun hs => ?_
        exact hm (hset (by simpa using hs))
      exact .inl ⟨hm, hs, hs ▸ hc⟩
  · rintro (h | h)
    · exact ⟨⟨fun hm => absurd hm h.mode, fun hs => by cases h.settled.symm.trans hs⟩, copiesSound_iff.mpr (h.settled ▸ h.copies)⟩
    · exact ⟨⟨fun _ => h.idle, fun _ => h.mode⟩, copiesSound_iff.mpr h.copies⟩

theorem resting_con {p : Part} (h : Resting p) (c : Console) : Resting { p with con := c } := { h with }

/-! A console line that is taken in INIT is answered and nothing else (R139). -/

theorem takeConsoleLine_init {p : Part} (hm : p.sup.mode = .init) (q : QueuedLine) :
    ∃ c, takeConsoleLine q p = { p with con := c } := by
  cases q with
  | bad => exact ⟨_, rfl⟩
  | tooLong => exact ⟨_, rfl⟩
  | text t =>
    simp only [takeConsoleLine]
    cases parseLine .console t with
    | refused code tag => exact ⟨_, rfl⟩
    | request r => exact ⟨_, takeConsole_refused (.inl hm)⟩

theorem followConsole_init {p : Part} (hm : p.sup.mode = .init) (x : Parsed) : ∃ c, followConsole x p = { p with con := c } := by
  cases x with
  | refused code tag => exact ⟨_, rfl⟩
  | request r => exact ⟨_, takeConsole_refused (.inl hm)⟩

theorem takeConsoleLines_init {p : Part} (hm : p.sup.mode = .init) (n : Nat) :
    ∃ c, takeConsoleLines n p = { p with con := c } := by
  induction n generalizing p with
  | zero => exact ⟨_, rfl⟩
  | succ n ih =>
    unfold takeConsoleLines
    split
    · rename_i q rest _ _
      obtain ⟨c, hc⟩ := takeConsoleLine_init (p := { p with con := { p.con with lines := rest } }) hm q
      rw [hc]
      exact ih hm
    · exact ⟨_, rfl⟩

theorem offerConsole_init {p : Part} (hm : p.sup.mode = .init) (q : QueuedLine) :
    ∃ c, offerConsole q p = { p with con := c } := by
  unfold offerConsole
  split
  · exact takeConsoleLines_init (p := { p with con := { p.con with lines := p.con.lines ++ [q] } }) hm _
  · exact ⟨_, rfl⟩

theorem resting_arriveConsole {p : Part} (h : Resting p) {take : Part → Part} (q : QueuedLine)
    (ht : ∃ c, take p = { p with con := c }) : Resting (arriveConsole take q p) := by
  have ho : ∃ c, arriveConsole take q p = { p with con := c } := by
    unfold arriveConsole
    split
    · exact ht
    · exact offerConsole_init h.mode q
  obtain ⟨c, hc⟩ := ho
  rw [hc]
  exact resting_con h c

theorem resting_offerConsole {p : Part} (h : Resting p) (q : QueuedLine) : Resting (offerConsole q p) := by
  obtain ⟨c, hc⟩ := offerConsole_init h.mode q
  rw [hc]
  exact resting_con h c

theorem resting_consoleSent {p : Part} (h : Resting p) : Resting (consoleSent p) := by
  obtain ht | ⟨i, ht⟩ := Option.eq_none_or_eq_some p.con.tx
  · rwa [consoleSent, ht]
  · have hi : ¬(i.restart = true ∧ p.sup.restartPending = true) := fun hx => by cases h.restart.symm.trans hx.2
    have hs : ∃ c, switchAfter i p = { p with con := c } := by
      unfold switchAfter
      split
      · exact ⟨_, rfl⟩
      · exact ⟨p.con, rfl⟩
    obtain ⟨c, hc⟩ := hs
    rw [consoleSent_of_tx ht, restartAfter, if_neg hi, hc]
    obtain ⟨d, hd⟩ := takeConsoleLines_init (p := freeConsole { p with con := c }) h.mode
      (freeConsole { p with con := c }).con.lines.length
    rw [pumpConsole, hd]
    exact resting_con h d

/-! Ports with nothing in flight (R6). -/

theorem answerExchange_quiet {p : Part} (h : portsQuiet p) (kind : PortKind) (result : PortOp → Option ExchangeResult)
    (port : Port) : answerExchange kind result port p = p := by
  unfold answerExchange
  split
  · rfl
  · rename_i e he
    rw [h port e he]

theorem linkBytes_quiet {p : Part} (h : portsQuiet p) (port : Port) (bytes : List Byte) : linkBytes port bytes p = p := by
  have hp : ∀ pieces : List (List Byte), pieces.foldl (linkPiece port) p = p := by
    intro pieces
    induction pieces with
    | nil => rfl
    | cons b bs ih => rw [List.foldl_cons, linkPiece_quiet (fun e he => .inl (h port e he)), ih]
  exact hp _

theorem exchangeExpiry_quiet {p : Part} (h : portsQuiet p) (port : Port) : exchangeExpiry port p = p := by
  unfold exchangeExpiry
  split
  · rfl
  · rename_i e he
    rw [h port e he]

theorem linkSent_quiet {p : Part} (h : portsQuiet p) (port : Port) : linkSent port p = p := by
  unfold linkSent
  split
  · rfl
  · rename_i e he
    rw [h port e he]

theorem entryOf_setEntry_self {p : Part} {port : Port} {e e' : PortEntry} (h : entryOf p port = some e) :
    entryOf (setEntry port e' p) port = some e' := by
  obtain ⟨t, ht, -⟩ := Option.map_eq_some_iff.mp h
  simp [entryOf, setEntry, ht]

theorem entryOf_setEntry_of_ne {p : Part} {port other : Port} (e : PortEntry) (h : other ≠ port) :
    entryOf (setEntry port e p) other = entryOf p other := by
  unfold entryOf setEntry
  rw [Option.map_map]
  exact congrArg (Option.map · p.spc.ports) (funext fun t => Four.get_set_of_ne t e h)

theorem portsQuiet_setEntry {p : Part} {port : Port} {e e' : PortEntry} (hq : portsQuiet p) (he : entryOf p port = some e)
    (h : e'.op = none) : portsQuiet (setEntry port e' p) := by
  intro other x hx
  by_cases ho : other = port
  · subst ho
    rw [entryOf_setEntry_self he] at hx
    exact Option.some.inj hx ▸ h
  · rw [entryOf_setEntry_of_ne _ ho] at hx
    exact hq other x hx

theorem resting_setEntry {p : Part} {port : Port} {e e' : PortEntry} (h : Resting p) (he : entryOf p port = some e)
    (ho : e'.op = none) : Resting (setEntry port e' p) := { h with quiet := portsQuiet_setEntry h.quiet he ho }

theorem resting_senseLevel {p : Part} (h : Resting p) (port : Port) (card : Bool) : Resting (senseLevel port card p) := by
  have hs : Resting { p with spc := { p.spc with sense := p.spc.sense.set port card } } := { h with quiet := h.quiet }
  unfold senseLevel
  dsimp only
  split
  · exact hs
  · rename_i e he
    split
    · exact resting_setEntry hs he (h.quiet port e he)
    · exact hs

theorem insertTold_of_no_run {p : Part} (h : p.sre.run = none) : insertTold p = p := by
  rw [insertTold, h]
  rfl

theorem resting_cardIn {p : Part} (h : Resting p) (port : Port) : Resting (cardIn port p) := by
  unfold cardIn
  split
  · exact h
  · rename_i e he
    split
    · rw [insertTold_of_no_run (by exact h.run)]
      exact resting_con (resting_setEntry (e' := cardEvent true e) h he (h.quiet port e he)) _
    · exact h

theorem resting_cardOut {p : Part} (h : Resting p) (port : Port) : Resting (cardOut port p) := by
  unfold cardOut
  split
  · exact h
  · rename_i e he
    have ho := h.quiet port e he
    have hoe : (endByRemoval (cardEvent false e)).op = none := by
      have hc : (cardEvent false e).op = none := ho
      rw [endByRemoval, hc]
      exact hc
    split
    · rw [ho]
      exact resting_con (resting_setEntry h he hoe) _
    · exact h

/-! The resets, and the end of INIT. -/

theorem portsQuiet_fresh {p : Part} (kinds : Four PortKind) (sense : Four Bool)
    (h : p.spc.ports = some (freshPorts kinds sense)) : portsQuiet p := by
  intro port e he
  rw [entryOf, h] at he
  obtain rfl := Option.some.inj he
  cases port <;> rfl

theorem resting_powerReset {p : Part} (cause : ResetCause)
    (h : ∀ g, validGeneration p.sst.areaA = some g → validGeneration p.sst.areaB = some g → False) :
    Resting (takePowerReset cause p) where
  mode := rfl
  slot := rfl
  verbRun := rfl
  runTag := rfl
  restart := rfl
  abort := rfl
  run := rfl
  question := rfl
  questionTimer := rfl
  waitTimer := rfl
  check := rfl
  txn := rfl
  plan := rfl
  image := rfl
  treset := rfl
  released := rfl
  window := rfl
  closed := rfl
  tx := rfl
  quiet := fun _ _ h => by cases h
  copies := ⟨h, nofun, fun _ => nofun⟩

theorem resting_takeRestart {p : Part} (h : CopiesOk true p.sst) : Resting (takeRestart p) where
  mode := rfl
  slot := rfl
  verbRun := rfl
  runTag := rfl
  restart := rfl
  abort := rfl
  run := rfl
  question := rfl
  questionTimer := rfl
  waitTimer := rfl
  check := rfl
  txn := rfl
  plan := rfl
  image := rfl
  treset := rfl
  released := rfl
  window := rfl
  closed := rfl
  tx := rfl
  quiet := portsQuiet_fresh _ _ rfl
  copies := withdrawQuestion_sst p ▸ h

/-- The choice of the mode at the end of INIT leaves INIT (R140). -/
theorem running_endInit {p : Part} (hs : p.sup.settled = true) (hc : CopiesOk true p.sst) : Running (endInit p) := by
  have hset : ∀ m, m ≠ .init → Running (setMode m (raise 800 none [.word p.sup.cause.name, .word p.sst.source.name] p)) :=
    fun m hm => ⟨hm, hs, hc⟩
  unfold endInit chooseMode
  dsimp only
  split
  · exact ⟨nofun, hs, hc⟩
  · split
    · exact kept_beginCheck running_keptByVerbs.toKeptByRuns _ _ _ _ _ _ _ ⟨nofun, hs, hc⟩
    · have hrun := kept_beginRun running_keptByVerbs.toKeptByRuns .start none (hset (.auto .search) nofun)
      exact hrun

theorem resting_settle {p : Part} (h : Resting p) : Running (settle p) ∨ Resting (settle p) := by
  unfold settle
  split
  · have hchosen : CopiesOk true (chooseSettings p.sst) := h.copies.choose
    dsimp only
    split
    · exact .inr { h with quiet := portsQuiet_fresh _ _ rfl, copies := hchosen }
    · exact .inl (running_endInit rfl hchosen)
  · exact .inr h

theorem resting_initExpiry {p : Part} (h : Resting p) : Running (initExpiry p) ∨ Resting (initExpiry p) := by
  unfold initExpiry
  split
  · have hr : Resting { p with sup := { p.sup with initTimer := false } } := { h with }
    dsimp only
    split
    · rename_i hs
      exact .inl (running_endInit hs (hs ▸ hr.copies))
    · exact .inr hr
  · exact .inr h

/-! The receivers and the settings memory. -/

theorem resting_receive {p : Part} (h : Resting p) (l : Line) (b : Byte) : Resting (receive l b p) := by
  cases l with
  | console =>
    unfold receive receiveConsole
    dsimp only
    split
    · exact h
    · split
      · exact resting_con h _
      · exact resting_offerConsole (resting_con h _) _
  | target =>
    unfold receive receiveTarget
    rw [if_pos (.inl h.closed)]
    exact h

theorem resting_frameError {p : Part} (h : Resting p) (l : Line) : Resting (frameError l p) := by
  cases l with
  | console =>
    unfold frameError
    dsimp only
    split
    · exact h
    · exact resting_con h _
  | target =>
    unfold frameError
    dsimp only
    rw [if_pos (.inl h.closed)]
    exact h

theorem resting_consoleBreak {p : Part} (h : Resting p) : Resting (consoleBreak p) := by
  unfold consoleBreak
  split
  · exact h
  · have hr : ∀ c, Resting { p with con := c, sup := { p.sup with breakFlag := true } } := fun _ => { h with }
    rw [takeBreak_init (by exact h.restart) (by exact h.mode)]
    exact hr _

theorem resting_writeEnded {p : Part} (h : Resting p) (e : WriteEnd) : Resting (writeEnded e p) := by
  unfold writeEnded
  split
  · exact h
  · rename_i v hv
    have hf : Resting (saveFailed v p) := { h with copies := h.copies.saveFailed }
    split
    · exact { h with copies := h.copies.saveDone hv }
    · exact hf
    · exact hf

theorem resting_saveExpiry {p : Part} (h : Resting p) : Resting (saveExpiry p) := by
  unfold saveExpiry
  split
  · exact h
  · exact { h with copies := h.copies.saveFailed }

/-! ### Every effect -/

theorem effect_resting {f : Part → Part} (hf : Effect f) {p : Part} (h : Resting p) : Running (f p) ∨ Resting (f p) := by
  cases hf with
  | powerReset cause => exact .inr (resting_powerReset cause h.copies.apart)
  | settle => exact resting_settle h
  | initExpiry => exact resting_initExpiry h
  | answerExchange kind result port => exact .inr (by rwa [answerExchange_quiet h.quiet])
  | linkBytes port bytes => exact .inr (by rwa [linkBytes_quiet h.quiet])
  | exchangeExpiry port => exact .inr (by rwa [exchangeExpiry_quiet h.quiet])
  | linkSent port => exact .inr (by rwa [linkSent_quiet h.quiet])
  | senseLevel port card => exact .inr (resting_senseLevel h port card)
  | cardIn port => exact .inr (resting_cardIn h port)
  | cardOut port => exact .inr (resting_cardOut h port)
  | questionExpiry => exact .inr (by rw [questionExpiry, h.questionTimer]; exact h)
  | waitExpiry => exact .inr (by rw [waitExpiry, h.waitTimer]; exact h)
  | windowExpiry => exact .inr (by rw [windowExpiry, h.window]; exact h)
  | busResponse mrdy merr word => exact .inr (by rw [busResponse, h.txn]; exact h)
  | responseExpiry => exact .inr (by rw [responseExpiry, h.txn]; exact h)
  | writeEnded e => exact .inr (resting_writeEnded h e)
  | saveExpiry => exact .inr (resting_saveExpiry h)
  | receive l b => exact .inr (resting_receive h l b)
  | frameError l => exact .inr (resting_frameError h l)
  | consoleBreak => exact .inr (resting_consoleBreak h)
  | markingAgain l =>
    cases l with
    | console => exact .inr (resting_con h _)
    | target => exact .inr { h with }
  | targetSpacing => exact .inr (by rw [targetSpacing, h.closed]; exact h)
  | consoleSent => exact .inr (resting_consoleSent h)
  | targetSent => exact .inr (by rw [targetSent, h.tx]; exact h)
  | consoleLine q => exact .inr (resting_arriveConsole h q (takeConsoleLine_init h.mode q))
  | targetLine q => exact .inr (by rwa [arriveTarget_closed h.closed])
  | consoleWords x q => exact .inr (resting_arriveConsole h q (followConsole_init h.mode x))
  | targetWords x q => exact .inr (by rwa [arriveTarget_closed h.closed])

/-- After the record that a RESTART waited for the part is in INIT, and lines that wait are refused there. -/
theorem resting_pumpFreed {p : Part} (h : Resting p) (i : ConsoleItem) :
    Resting (pumpConsole (freeConsole (switchAfter i p))) := by
  have hs : ∃ c, switchAfter i p = { p with con := c } := by
    unfold switchAfter
    split
    · exact ⟨_, rfl⟩
    · exact ⟨p.con, rfl⟩
  obtain ⟨c, hc⟩ := hs
  rw [hc]
  obtain ⟨d, hd⟩ := takeConsoleLines_init (p := freeConsole { p with con := c }) h.mode
    (freeConsole { p with con := c }).con.lines.length
  rw [pumpConsole, hd]
  exact resting_con h d

theorem effect_running {f : Part → Part} (hf : Effect f) {p : Part} (h : Running p) : Running (f p) ∨ Resting (f p) := by
  by_cases hc : ∃ i, p.con.tx = some i ∧ f = consoleSent ∧ i.restart = true ∧ p.sup.restartPending = true
  · obtain ⟨i, ht, rfl, hi⟩ := hc
    rw [consoleSent_of_tx ht, restartAfter, if_pos hi]
    exact .inr (resting_pumpFreed (resting_takeRestart h.copies) i)
  by_cases hb : p.tgt.tx.map TargetItem.after = some .reboot ∧ f = targetSent
  · obtain ⟨ha, rfl⟩ := hb
    obtain ⟨i, ht, hi⟩ := Option.map_eq_some_iff.mp ha
    rw [targetSent, ht]
    simp only [hi]
    exact .inr (resting_takeRestart h.copies)
  by_cases hp : ∃ cause, f = takePowerReset cause
  · obtain ⟨cause, rfl⟩ := hp
    exact .inr (resting_powerReset cause h.copies.apart)
  refine .inl (kept_effect running_keptByLines hf (fun cause he => absurd ⟨cause, he⟩ hp) ?_ ?_ ?_ h)
  · rintro rfl
    rw [settle, if_neg fun hx => h.mode hx.1]
    exact h
  · rintro rfl
    exact kept_consoleSent running_keptByLines (fun i ht => if_neg fun hi => hc ⟨i, ht, rfl, hi⟩) h
  · rintro rfl
    exact kept_targetSent running_keptByLines (fun ha => hb ⟨ha, rfl⟩) h

/-- Settles O54: outside INIT the operations of runs, verbs and lines keep the copies' condition; in INIT only the console, the
settings memory and the resets act. -/
theorem storedCopiesStaySound : Obligations.StoredCopiesStaySound :=
  keptByEveryStep_of_effect fun _ hf _ hp => initIdle_iff.mpr ((initIdle_iff.mp hp).elim (effect_running hf) (effect_resting hf))

end Sys2Proof.Proofs

/-! PROOFS. The condition on the slot, the requests in flight and the target's reset, taken apart: who holds the slot, what is in
flight, and what is ready for the next operation. -/

namespace Sys2Proof.Proofs

open Sys2Proof Sys2Proof.Machine

/-- The slot's condition, and with `b` that the transaction in flight is one the memory port takes. -/
def Sound (b : Bool) (p : Part) : Prop := slotSound p = true ∧ (b = true → portSound p)

/-! ### What the conditions look at -/

/-- The two parts agree in all that the conditions look at. -/
structure SameSlots (p q : Part) : Prop where
  slot : q.sup.slot = p.sup.slot
  mode : q.sup.mode = p.sup.mode
  verbRun : q.sup.verbRun = p.sup.verbRun
  abort : q.sup.abortPending = p.sup.abortPending
  run : q.sre.run = p.sre.run
  question : q.sre.question = p.sre.question
  questionTimer : q.sre.questionTimer = p.sre.questionTimer
  waitTimer : q.sre.waitTimer = p.sre.waitTimer
  check : q.mck.run = p.mck.run
  txn : q.mmp.txn = p.mmp.txn
  ops : operations q = operations p
  image : q.ldr.image = p.ldr.image
  plan : q.ldr.plan = p.ldr.plan
  rlu : q.rlu = p.rlu
  isOpen : q.tgt.isOpen = p.tgt.isOpen
  map : q.sst.settings.map = p.sst.settings.map

theorem SameSlots.loaderWorks {p q : Part} (f : SameSlots p q) : loaderWorks q = loaderWorks p := by
  unfold Machine.loaderWorks
  rw [f.image, f.plan, f.run, f.verbRun]

theorem SameSlots.requesterRuns {p q : Part} (f : SameSlots p q) : requesterRuns q = requesterRuns p := by
  funext rq
  unfold Machine.requesterRuns
  rw [f.run, f.verbRun, f.loaderWorks]

theorem SameSlots.txnRequesterRuns {p q : Part} (f : SameSlots p q) : txnRequesterRuns q = txnRequesterRuns p := by
  funext rq
  unfold Machine.txnRequesterRuns
  rw [f.check, f.verbRun, f.loaderWorks]

theorem SameSlots.slotSound {p q : Part} (f : SameSlots p q) : slotSound q = slotSound p := by
  have hh : holderSound q = holderSound p := by
    unfold holderSound nothingRuns
    rw [f.slot, f.mode, f.verbRun, f.run, f.check]
  have hr : requestsSound q = requestsSound p := by
    unfold requestsSound
    rw [f.txn, f.ops, f.abort, f.requesterRuns, f.txnRequesterRuns]
  have hi : imageSound q = imageSound p := by
    unfold imageSound
    rw [f.image, f.plan]
  have hl : releaseSound q = releaseSound p := by
    unfold releaseSound
    rw [f.rlu, f.mode, f.image, f.isOpen]
  have hw : waitsSound q = waitsSound p := by
    unfold waitsSound
    rw [f.question, f.questionTimer, f.waitTimer, f.run]
  unfold Machine.slotSound
  rw [hh, hr, hi, hl, hw]

theorem judgeTxn_congr {p q : Part} (hr : q.rlu.treset = p.rlu.treset) (hm : q.sst.settings.map = p.sst.settings.map)
    (kind : TxnKind) (a : Nat) : judgeTxn kind a q = judgeTxn kind a p := by
  unfold judgeTxn
  rw [hr, hm]

theorem Sound.congr {b : Bool} {p q : Part} (h : Sound b p) (f : SameSlots p q) : Sound b q := by
  refine ⟨f.slotSound.trans h.1, fun hb t ht => ?_⟩
  rw [judgeTxn_congr (congrArg Rlu.treset f.rlu) f.map]
  exact h.2 hb t (f.txn.symm.trans ht)

theorem sound_con {b : Bool} {p : Part} (h : Sound b p) (c : Console) : Sound b { p with con := c } :=
  h.congr ⟨rfl, rfl, rfl, rfl, rfl, rfl, rfl, rfl, rfl, rfl, rfl, rfl, rfl, rfl, rfl, rfl⟩

/-- The attempt log is not looked at. -/
theorem sound_appendRecord {b : Bool} {p : Part} (h : Sound b p) (tag : Option Tag) (f : AttemptFields) (o : AttemptOutcome)
    (d : Option Nat) (i : Option Word32) : Sound b (appendRecord tag f o d i p) :=
  h.congr ⟨rfl, rfl, rfl, rfl, rfl, rfl, rfl, rfl, rfl, rfl, rfl, rfl, rfl, rfl, rfl, rfl⟩

/-! ### Operations on the ports -/

theorem operations_of_table {p : Part} {t : Four PortEntry} (h : p.spc.ports = some t) :
    operations p = Port.all.filterMap fun port => (t.get port).op := by rw [operations, h]

theorem filterMap_ports {α : Type} (f : Port → Option α) :
    Port.all.filterMap f = (f .sp0).toList ++ (f .sp1).toList ++ (f .sp2).toList ++ (f .sp3).toList := by
  simp only [Port.all, List.filterMap]
  cases f .sp0 <;> cases f .sp1 <;> cases f .sp2 <;> cases f .sp3 <;> rfl

/-- When what is in flight on one port is all that is in flight, the other ports are quiet. -/
theorem quiet_of_filterMap_ports {α : Type} {f : Port → Option α} {port other : Port}
    (h : Port.all.filterMap f = (f port).toList) (hne : other ≠ port) : f other = none := by
  rw [filterMap_ports] at h
  have hlen := congrArg List.length h
  simp only [List.length_append] at hlen
  rw [← Option.toList_eq_nil_iff, ← List.length_eq_zero_iff]
  cases port <;> cases other <;> first | exact absurd rfl hne | omega

/-- The operations in flight when at most the one of a port is. -/
theorem operations_setEntry {p : Part} {port : Port} {e : PortEntry} (e' : PortEntry) (he : entryOf p port = some e)
    (ho : operations p = e.op.toList) : operations (setEntry port e' p) = e'.op.toList := by
  obtain ⟨t, ht, rfl⟩ := Option.map_eq_some_iff.mp he
  have hs : (setEntry port e' p).spc.ports = some (t.set port e') := by simp [setEntry, ht]
  rw [operations_of_table ht] at ho
  have hq : ∀ other, other ≠ port → (t.get other).op = none := fun _ hne => quiet_of_filterMap_ports ho hne
  rw [operations_of_table hs, filterMap_ports]
  cases port <;> simp [Four.get_set_of_ne, hq]

/-- An update that leaves a port's operation leaves the operations. -/
theorem operations_setEntry_same {p : Part} {port : Port} {e e' : PortEntry} (he : entryOf p port = some e)
    (ho : e'.op = e.op) : operations (setEntry port e' p) = operations p := by
  obtain ⟨t, ht, rfl⟩ := Option.map_eq_some_iff.mp he
  have hs : (setEntry port e' p).spc.ports = some (t.set port e') := by simp [setEntry, ht]
  rw [operations_of_table hs, operations_of_table ht]
  refine congrArg (fun g => Port.all.filterMap g) (funext fun other => ?_)
  by_cases hne : other = port
  · subst hne
    rw [Four.get_set_self, ho]
  · rw [Four.get_set_of_ne _ _ hne]

/-- With nothing in flight no port has an operation. -/
theorem op_none_of_operations {p : Part} {port : Port} {e : PortEntry} (h : operations p = []) (he : entryOf p port = some e) :
    e.op = none := by
  obtain ⟨t, ht, rfl⟩ := Option.map_eq_some_iff.mp he
  rw [operations_of_table ht, List.filterMap_eq_nil_iff] at h
  exact h port (by cases port <;> decide)

/-- A port's operation is among those in flight. -/
theorem op_mem_operations {p : Part} {port : Port} {e : PortEntry} {f : InFlight} (he : entryOf p port = some e)
    (hf : e.op = some f) : f ∈ operations p := by
  obtain ⟨t, ht, rfl⟩ := Option.map_eq_some_iff.mp he
  rw [operations_of_table ht]
  exact List.mem_filterMap.mpr ⟨port, by cases port <;> decide, hf⟩

theorem operations_withdraw (p : Part) : operations (withdraw p) = [] := by
  have hw : ∀ e, (withdrawEntry e).op = none := by
    intro e
    unfold withdrawEntry
    split
    · assumption
    · rfl
  unfold operations withdraw
  cases p.spc.ports with
  | none => rfl
  | some t =>
    refine List.filterMap_eq_nil_iff.mpr fun port _ => ?_
    cases port <;> exact hw _

theorem operations_fresh {p : Part} {kinds : Four PortKind} {sense : Four Bool}
    (h : p.spc.ports = some (freshPorts kinds sense)) : operations p = [] := by
  rw [operations_of_table h]
  rfl

end Sys2Proof.Proofs

/-! PROOFS. Who holds the slot, and a part ready for the next operation of its holder (R137). -/

namespace Sys2Proof.Proofs

open Sys2Proof Sys2Proof.Machine

/-- Nothing is in flight, the target is held, and no question or wait is pending. -/
structure Ready (p : Part) : Prop where
  txn : p.mmp.txn = none
  ops : operations p = []
  treset : p.rlu.treset = .asserted
  released : p.rlu.released = none
  window : p.rlu.windowTimer = none
  closed : p.tgt.isOpen = false
  image : p.ldr.image ≠ .released
  plan : imageSound p = true
  question : p.sre.question = none
  questionTimer : p.sre.questionTimer = none
  waitTimer : p.sre.waitTimer = none

/-- Nobody holds the slot and nothing runs. -/
structure HoldsNone (p : Part) : Prop where
  slot : p.sup.slot = none
  mode : (∀ phase, p.sup.mode ≠ .auto phase) ∧ ∀ v, p.sup.mode ≠ .manual (some v)
  run : p.sre.run = none
  check : p.mck.run = none
  verbRun : p.sup.verbRun = none

/-- A search run holds the slot. -/
structure HoldsSearch (p : Part) : Prop where
  slot : p.sup.slot = some .searchRun
  mode : ∃ phase, p.sup.mode = .auto phase ∧ phase ≠ .check
  run : p.sre.run ≠ none
  check : p.mck.run = none
  verbRun : p.sup.verbRun = none

/-- A check run holds the slot, or is to begin. -/
structure HoldsCheck (p : Part) : Prop where
  slot : (p.sup.slot = some .automaticCheck ∧ p.sup.mode = .auto .check) ∨
    ∃ tag, p.sup.slot = some (.verb .check tag) ∧ p.sup.mode = .manual (some .check)
  run : p.sre.run = none
  verbRun : p.sup.verbRun = none

/-- A verb other than CHECK holds the slot, with its run. -/
structure HoldsVerb (v : VerbRun) (p : Part) : Prop where
  slot : ∃ tag, p.sup.slot = some (.verb v.verb tag)
  mode : p.sup.mode = .manual (some v.verb)
  run : p.sre.run = none
  check : p.mck.run = none
  verbRun : p.sup.verbRun = some v

/-! ### The holder as `holderSound` judges it -/

theorem HoldsNone.sound {p : Part} (h : HoldsNone p) : holderSound p = true := by
  have hr : nothingRuns p = true := by simp [nothingRuns, h.run, h.check, h.verbRun]
  unfold holderSound
  rw [h.slot]
  split
  · exact absurd ‹_› (h.mode.1 _)
  · exact absurd ‹_› (h.mode.2 _)
  · exact hr
  all_goals contradiction

theorem HoldsSearch.sound {p : Part} (h : HoldsSearch p) : holderSound p = true := by
  obtain ⟨phase, hm, hp⟩ := h.mode
  have hr := Option.isSome_iff_ne_none.mpr h.run
  cases phase <;> simp_all [holderSound, h.slot, h.check, h.verbRun]

theorem HoldsCheck.sound {p : Part} (h : HoldsCheck p) (hc : p.mck.run ≠ none) : holderSound p = true := by
  have hr := Option.isSome_iff_ne_none.mpr hc
  obtain ⟨hs, hm⟩ | ⟨tag, hs, hm⟩ := h.slot
  · simp [holderSound, hs, hm, h.run, h.verbRun, hr]
  · simp [holderSound, hs, hm, h.run, h.verbRun, hr]

theorem HoldsVerb.sound {v : VerbRun} {p : Part} (h : HoldsVerb v p) : holderSound p = true := by
  obtain ⟨tag, hs⟩ := h.slot
  have hc : v.verb ≠ .check := by
    cases v with
    | start boot tag port unit raw stage => cases boot <;> nofun
    | _ => nofun
  unfold holderSound
  rw [hs, h.mode]
  cases hv : v.verb with
  | check => exact absurd hv hc
  | _ => simp [h.run, h.check, h.verbRun, hv]

theorem holder_cases {p : Part} (h : holderSound p = true) :
    HoldsNone p ∨ HoldsSearch p ∨ (HoldsCheck p ∧ p.mck.run ≠ none) ∨ ∃ v, HoldsVerb v p := by
  unfold holderSound at h
  split at h
  · cases h
  · cases h
  · rename_i hs ha hb
    simp only [nothingRuns, Bool.and_eq_true, Option.isNone_iff_eq_none] at h
    exact .inl ⟨hs, ⟨ha, hb⟩, h.1.1, h.1.2, h.2⟩
  · rename_i hs hm
    simp only [Bool.and_eq_true, Option.isNone_iff_eq_none, Option.isSome_iff_ne_none] at h
    exact .inr (.inr (.inl ⟨⟨.inl ⟨hs, hm⟩, h.1.1, h.2⟩, h.1.2⟩))
  · cases h
  · rename_i phase hp hs hm
    simp only [Bool.and_eq_true, Option.isNone_iff_eq_none, Option.isSome_iff_ne_none] at h
    exact .inr (.inl ⟨hs, ⟨phase, hm, fun hc => hp (by rw [hc])⟩, h.1.1, h.1.2, h.2⟩)
  · rename_i tag hs hm
    simp only [Bool.and_eq_true, Option.isNone_iff_eq_none, Option.isSome_iff_ne_none] at h
    exact .inr (.inr (.inl ⟨⟨.inr ⟨tag, hs, hm⟩, h.1.1, h.2⟩, h.1.2⟩))
  · rename_i v tag w _ hs hm
    simp only [Bool.and_eq_true, Option.isNone_iff_eq_none, decide_eq_true_eq] at h
    obtain ⟨⟨⟨rfl, hr⟩, hc⟩, hv⟩ := h
    obtain ⟨x, hx, rfl⟩ := Option.map_eq_some_iff.mp hv
    exact .inr (.inr (.inr ⟨x, ⟨tag, hs⟩, hm, hr, hc, hx⟩))
  · cases h

/-! ### Requests and releases -/

/-- What is in flight. -/
theorem requests_cases {p : Part} (h : requestsSound p = true) :
    (p.mmp.txn = none ∧ operations p = [] ∧ p.sup.abortPending = false) ∨
      (∃ f, p.mmp.txn = none ∧ operations p = [f] ∧ requesterRuns p f.requester = true ∧ p.sup.abortPending = false) ∨
      ∃ t, p.mmp.txn = some t ∧ operations p = [] ∧ txnRequesterRuns p t.requester = true := by
  unfold requestsSound at h
  split at h
  · exact .inl ⟨‹_›, ‹_›, by simpa using h⟩
  · simp only [Bool.and_eq_true, Bool.not_eq_true'] at h
    exact .inr (.inl ⟨_, ‹_›, ‹_›, h⟩)
  · exact .inr (.inr ⟨_, ‹_›, ‹_›, h⟩)
  · cases h

theorem requestsSound_of_quiet {p : Part} (ht : p.mmp.txn = none) (ho : operations p = [])
    (ha : p.sup.abortPending = false) : requestsSound p = true := by
  rw [requestsSound, ht, ho, ha]
  rfl

theorem imageSound_of_released {p : Part} {plan : LoadPlan} (hi : p.ldr.image = .released) (hp : p.ldr.plan = some plan)
    (hc : plan.cursor.isNone = true) : imageSound p = true := by
  rw [imageSound, hi, hp]
  exact hc

/-- The target is held, or runs in TARGET-RUN. -/
theorem release_cases {p : Part} (h : releaseSound p = true) :
    (p.rlu.treset = .asserted ∧ p.rlu.released = none ∧ p.ldr.image ≠ .released ∧ p.rlu.windowTimer = none ∧
      p.tgt.isOpen = false ∧ ∀ phase, p.sup.mode ≠ .targetRun phase) ∨
    ∃ r, p.rlu.treset = .freed ∧ p.rlu.released = some r ∧ p.sup.mode = .targetRun r.phase ∧ p.ldr.image = .released ∧
      p.tgt.isOpen = true := by
  unfold releaseSound at h
  split at h
  · rename_i r ht hr
    simp only [Bool.and_eq_true, decide_eq_true_eq] at h
    exact .inr ⟨r, ht, hr, h.1.1.1, h.1.1.2, h.1.2⟩
  · rename_i ht hr
    simp only [Bool.and_eq_true, Option.isNone_iff_eq_none, Bool.not_eq_true', ne_eq, decide_not] at h
    refine .inl ⟨ht, hr, by simpa using h.1.1.1, h.1.1.2, h.1.2, fun phase hm => ?_⟩
    rw [hm] at h
    cases h.2
  · cases h

theorem Ready.releaseSound {p : Part} (h : Ready p) (hm : ∀ phase, p.sup.mode ≠ .targetRun phase) : releaseSound p = true := by
  unfold Machine.releaseSound
  rw [h.treset, h.released]
  cases hmode : p.sup.mode with
  | targetRun phase => exact absurd hmode (hm phase)
  | _ => simp [h.image, h.window, h.closed]

theorem Ready.waitsSound {p : Part} (h : Ready p) : waitsSound p = true := by
  simp [Machine.waitsSound, h.question, h.questionTimer, h.waitTimer]

section Ready

variable {b : Bool} {p : Part} (h : Ready p) (hh : holderSound p = true) (hm : ∀ phase, p.sup.mode ≠ .targetRun phase)

include h hh hm

theorem Ready.sound (ha : p.sup.abortPending = false) : Sound b p := by
  refine ⟨?_, fun _ t ht => by cases h.txn.symm.trans ht⟩
  simp [slotSound, hh, requestsSound, h.txn, h.ops, ha, h.plan, h.releaseSound hm, h.waitsSound]

/-- A port operation for the holder goes out. -/
theorem Ready.sound_exchange {port : Port} {e e' : PortEntry} {f : InFlight} (ha : p.sup.abortPending = false)
    (he : entryOf p port = some e) (hf : e'.op = some f) (hr : requesterRuns p f.requester = true) :
    Sound b (setEntry port e' p) := by
  have hops : operations (setEntry port e' p) = [f] := by
    rw [operations_setEntry e' he (by rw [h.ops, op_none_of_operations h.ops he]; rfl), hf]
    rfl
  have hreq : requestsSound (setEntry port e' p) = true := by
    unfold requestsSound
    rw [hops, setEntry_mmp, h.txn, setEntry_sup, ha]
    exact (Bool.and_true _).trans hr
  have hi := h.plan
  have hl := h.releaseSound hm
  have hw := h.waitsSound
  refine ⟨?_, fun _ t ht => by cases h.txn.symm.trans ht⟩
  simp only [slotSound, Bool.and_eq_true]
  exact ⟨⟨⟨⟨hh, hreq⟩, hi⟩, hl⟩, hw⟩

/-- A memory transaction for the holder goes out. -/
theorem Ready.sound_txn {t : Transaction} (hr : txnRequesterRuns p t.requester = true)
    (hj : judgeTxn t.kind t.address p = none) : Sound b { p with mmp := { p.mmp with txn := some t } } := by
  have hreq : requestsSound { p with mmp := { p.mmp with txn := some t } } = true := by
    have hops : operations { p with mmp := { p.mmp with txn := some t } } = [] := h.ops
    unfold requestsSound
    rw [hops]
    exact hr
  have hi := h.plan
  have hl := h.releaseSound hm
  have hw := h.waitsSound
  refine ⟨?_, fun _ x hx => ?_⟩
  · simp only [slotSound, Bool.and_eq_true]
    exact ⟨⟨⟨⟨hh, hreq⟩, hi⟩, hl⟩, hw⟩
  · cases hx
    exact hj

end Ready

/-! ### A holder ready for its next operation -/

/-- The search run, ready to go on. -/
structure Searching (p : Part) : Prop extends Ready p, HoldsSearch p where
  abort : p.sup.abortPending = false

/-- The check run, ready to go on or to begin. -/
structure Checking (p : Part) : Prop extends Ready p, HoldsCheck p where
  abort : p.sup.abortPending = false

/-- The verb that holds the slot, ready to go on. -/
structure Serving (v : VerbRun) (p : Part) : Prop extends Ready p, HoldsVerb v p where
  abort : p.sup.abortPending = false

theorem HoldsSearch.noRelease {p : Part} (h : HoldsSearch p) (phase : WindowPhase) : p.sup.mode ≠ .targetRun phase := by
  obtain ⟨ph, hm, -⟩ := h.mode
  rw [hm]
  nofun

theorem HoldsCheck.noRelease {p : Part} (h : HoldsCheck p) (phase : WindowPhase) : p.sup.mode ≠ .targetRun phase := by
  obtain ⟨-, hm⟩ | ⟨tag, -, hm⟩ := h.slot
  · rw [hm]
    nofun
  · rw [hm]
    nofun

theorem HoldsVerb.noRelease {v : VerbRun} {p : Part} (h : HoldsVerb v p) (phase : WindowPhase) :
    p.sup.mode ≠ .targetRun phase := by
  rw [h.mode]
  nofun

section

variable {b : Bool} {p : Part}

theorem Searching.sound (h : Searching p) : Sound b p := h.toReady.sound h.toHoldsSearch.sound h.noRelease h.abort

theorem Checking.sound (h : Checking p) (hc : p.mck.run ≠ none) : Sound b p :=
  h.toReady.sound (h.toHoldsCheck.sound hc) h.noRelease h.abort

theorem Serving.sound {v : VerbRun} (h : Serving v p) : Sound b p := h.toReady.sound h.toHoldsVerb.sound h.noRelease h.abort

end

/-! ### The slot given back -/

section

variable {b : Bool} {p : Part}

theorem sound_goIdle (h : Ready p) (hr : p.sre.run = none) (hc : p.mck.run = none) : Sound b (goIdle p) :=
  Ready.sound (p := goIdle p) { h with } (HoldsNone.sound ⟨rfl, ⟨nofun, nofun⟩, hr, hc, rfl⟩) nofun rfl

theorem sound_enterHalted (h : Ready p) (hr : p.sre.run = none) (hc : p.mck.run = none) (r : HaltReason) :
    Sound b (enterHalted r p) :=
  Ready.sound (p := enterHalted r p) { h with treset := rfl } (HoldsNone.sound ⟨rfl, ⟨nofun, nofun⟩, hr, hc, rfl⟩) nofun rfl

theorem Serving.sound_goIdle {v : VerbRun} (h : Serving v p) : Sound b (goIdle p) :=
  Proofs.sound_goIdle h.toReady h.run h.check

/-! What a release writes (R117, R118, R184). -/

theorem release_of_plan {plan : LoadPlan} (hp : p.ldr.plan = some plan) (kind : ReleaseKind) (tag : Option Tag) :
    ∃ (c : Console) (t : Target) (log : List AttemptRecord) (n : Nat), t.isOpen = true ∧
      release kind tag p =
        { p with
          ldr := { p.ldr with image := .released }
          sre := { p.sre with releaseCount := satSucc 0xFF p.sre.releaseCount, log := log, nextSeq := n }
          rlu :=
            { treset := .freed, released := some (releasedRecord plan kind tag p.sst.settings.confirm)
              windowTimer := (releasedRecord plan kind tag p.sst.settings.confirm).window }
          sup :=
            { p.sup with
              mode := .targetRun (releasedRecord plan kind tag p.sst.settings.confirm).phase, slot := none, verbRun := none }
          con := c
          tgt := t } := by
  refine ⟨(release kind tag p).con, (release kind tag p).tgt, (release kind tag p).sre.log, (release kind tag p).sre.nextSeq, ?_, ?_⟩
  · unfold release
    rw [hp]
    rfl
  · unfold release
    rw [hp]
    rfl

/-- The window of a released-candidate record runs only while it waits to be confirmed (R117, R120). -/
theorem releasedRecord_window (plan : LoadPlan) (kind : ReleaseKind) (tag : Option Tag) (confirm : Nat) :
    (releasedRecord plan kind tag confirm).window = none ∨ (releasedRecord plan kind tag confirm).phase = .confirmWait := by
  unfold releasedRecord
  cases windowOf plan.image.confirm confirm with
  | none => exact .inl rfl
  | some n => exact .inr rfl

/-- A release of the staged image, with no run left (R116, R118). -/
theorem sound_release (h : Ready p) (hi : p.ldr.image = .staged) (hr : p.sre.run = none) (hc : p.mck.run = none)
    (ha : p.sup.abortPending = false) (kind : ReleaseKind) (tag : Option Tag) : Sound b (release kind tag p) := by
  obtain ⟨plan, hplan, hcur⟩ : ∃ plan, p.ldr.plan = some plan ∧ plan.cursor.isNone = true := by
    have hp := h.plan
    unfold imageSound at hp
    rw [hi] at hp
    cases hx : p.ldr.plan with
    | none => rw [hx] at hp; cases hp
    | some plan => rw [hx] at hp; exact ⟨plan, rfl, hp⟩
  obtain ⟨c, t, log, n, ho, he⟩ := release_of_plan hplan kind tag
  have hw := releasedRecord_window plan kind tag p.sst.settings.confirm
  rw [he]
  refine ⟨?_, fun _ t ht => by cases h.txn.symm.trans ht⟩
  generalize releasedRecord plan kind tag p.sst.settings.confirm = rel at hw
  simp only [slotSound, Bool.and_eq_true]
  refine ⟨⟨⟨⟨HoldsNone.sound ⟨rfl, ⟨nofun, nofun⟩, hr, hc, rfl⟩, requestsSound_of_quiet h.txn h.ops ha⟩,
    imageSound_of_released rfl hplan hcur⟩, ?_⟩, h.waitsSound⟩
  · simpa [releaseSound, ho, Option.isNone_iff_eq_none] using hw

end

end Sys2Proof.Proofs

/-! PROOFS. What the runs do from a part ready for their next operation: a request goes out for the holder, or the run ends and
gives the slot back. Load and search (R43 to R50, R101 to R111). -/

namespace Sys2Proof.Proofs

open Sys2Proof Sys2Proof.Machine

/-! ### Port requests -/

/-- PROBE begins an exchange, or is answered at once (R7). -/
theorem requestProbe_cases (port : Port) (u : Nat) (rq : Requester) (p : Part) :
    (∃ e, entryOf p port = some e ∧ requestProbe port u rq p = (setEntry port (beginExchange e .probe u rq) p, none)) ∨
      (∃ r, requestProbe port u rq p = (p, some r)) ∨
      ∃ e x, entryOf p port = some e ∧ requestProbe port u rq p = (setEntry port (setUnit u x e) p, some .absent) := by
  unfold requestProbe
  split
  · exact .inr (.inl ⟨_, rfl⟩)
  · split
    · exact .inr (.inl ⟨_, rfl⟩)
    · split
      · exact .inr (.inl ⟨_, rfl⟩)
      · split
        · exact .inr (.inr ⟨_, _, ‹_›, rfl⟩)
        · exact .inl ⟨_, ‹_›, rfl⟩

/-- READ begins an exchange, or is answered at once and changes nothing (R8). -/
theorem requestRead_cases (port : Port) (u block : Nat) (rq : Requester) (p : Part) :
    (∃ e op, entryOf p port = some e ∧ requestRead port u block rq p = (setEntry port (beginExchange e op u rq) p, none)) ∨
      ∃ r, requestRead port u block rq p = (p, some r) := by
  unfold requestRead
  split
  · exact .inr ⟨_, rfl⟩
  · split
    · exact .inr ⟨_, rfl⟩
    · exact .inl ⟨_, _, ‹_›, rfl⟩

/-- The entry of a port with nothing in flight replaced by one with nothing in flight. -/
theorem operations_setEntry_nil {p : Part} {port : Port} {e e' : PortEntry} (h : operations p = [])
    (he : entryOf p port = some e) (ho : e'.op = none) : operations (setEntry port e' p) = [] := by
  rw [operations_setEntry_same he (ho.trans (op_none_of_operations h he).symm), h]

/-- Nothing is in flight and the holder of the slot goes on. -/
structure Standing (p : Part) : Prop extends Ready p where
  holder : holderSound p = true
  noRelease : ∀ phase, p.sup.mode ≠ .targetRun phase
  abort : p.sup.abortPending = false

theorem Searching.standing {p : Part} (h : Searching p) : Standing p :=
  ⟨h.toReady, h.toHoldsSearch.sound, h.noRelease, h.abort⟩

theorem Serving.standing {v : VerbRun} {p : Part} (h : Serving v p) : Standing p :=
  ⟨h.toReady, h.toHoldsVerb.sound, h.noRelease, h.abort⟩

section

variable {b : Bool} {p : Part}

theorem Standing.sound (h : Standing p) : Sound b p := h.toReady.sound h.holder h.noRelease h.abort

/-- An exchange goes out for what runs. -/
theorem Standing.sound_exchange {port : Port} {e : PortEntry} {op : PortOp} {u : Nat} {rq : Requester} (h : Standing p)
    (he : entryOf p port = some e) (hr : requesterRuns p rq = true) : Sound b (setEntry port (beginExchange e op u rq) p) :=
  h.toReady.sound_exchange h.holder h.noRelease h.abort he (e' := beginExchange e op u rq) rfl hr

theorem sound_follow {α : Type} {x : Part × Option α} {f : α → Part → Part} (h0 : x.2 = none → Sound b x.1)
    (h1 : ∀ a, x.2 = some a → Sound b (f a x.1)) : Sound b (follow x f) := by
  unfold follow
  split
  · exact h0 ‹_›
  · exact h1 _ ‹_›

/-- A READ for what runs: it goes out, or its result is followed at once. -/
theorem sound_requestRead {port : Port} {u block : Nat} {rq : Requester} {f : ReadResult → Part → Part} (h : Standing p)
    (hr : requesterRuns p rq = true) (hf : ∀ r, Sound b (f r p)) : Sound b (follow (requestRead port u block rq p) f) := by
  obtain ⟨e, op, he, hx⟩ | ⟨r, hx⟩ := requestRead_cases port u block rq p
  · rw [hx]
    exact h.sound_exchange he hr
  · rw [hx]
    exact hf r

/-- A PROBE for what runs: it goes out, or its result is followed at once. -/
theorem sound_requestProbe {port : Port} {u : Nat} {rq : Requester} {f : ProbeResult → Part → Part} (h : Standing p)
    (hr : requesterRuns p rq = true)
    (hf : ∀ r (x : Spc), operations { p with spc := x } = [] → Sound b (f r { p with spc := x })) :
    Sound b (follow (requestProbe port u rq p) f) := by
  obtain ⟨e, he, hx⟩ | ⟨r, hx⟩ | ⟨e, x, he, hx⟩ := requestProbe_cases port u rq p
  · rw [hx]
    exact h.sound_exchange he hr
  · rw [hx]
    exact hf r p.spc h.ops
  · rw [hx]
    have hu : (setUnit u x e).op = none := op_none_of_operations (e := e) h.ops he
    exact hf .absent _ (operations_setEntry_nil h.ops he hu)

end

/-! ### Load -/

/-- The run that has asked the loader for a load stands in its loading stage (R100). -/
def AwaitsLoad (rq : LoadRequester) (p : Part) : Prop :=
  match rq with
  | .search => Searching p ∧ p.sre.run.map SearchRun.stage = some .loading
  | .boot => ∃ tag port unit raw, Serving (.start true tag port unit raw .loading) p
  | .stage => ∃ tag port unit raw, Serving (.start false tag port unit raw .loading) p

theorem AwaitsLoad.standing {rq : LoadRequester} {p : Part} (h : AwaitsLoad rq p) : Standing p := by
  cases rq with
  | search => exact h.1.standing
  | boot =>
    obtain ⟨tag, port, unit, raw, h⟩ := h
    exact h.standing
  | stage =>
    obtain ⟨tag, port, unit, raw, h⟩ := h
    exact h.standing

theorem AwaitsLoad.congr {rq : LoadRequester} {p q : Part} (h : AwaitsLoad rq p) (hq : Ready q) (hs : q.sup = p.sup)
    (hr : q.sre.run = p.sre.run) (hc : q.mck = p.mck) : AwaitsLoad rq q := by
  have hv : ∀ {v}, Serving v p → Serving v q := fun h =>
    ⟨hq, ⟨hs ▸ h.slot, hs ▸ h.mode, hr.trans h.run, hc ▸ h.check, hs ▸ h.verbRun⟩, hs ▸ h.abort⟩
  cases rq with
  | search =>
    obtain ⟨h, hl⟩ := h
    exact ⟨⟨hq, ⟨hs ▸ h.slot, hs ▸ h.mode, hr ▸ h.run, hc ▸ h.check, hs ▸ h.verbRun⟩, hs ▸ h.abort⟩, hr ▸ hl⟩
  | boot =>
    obtain ⟨tag, port, unit, raw, h⟩ := h
    exact ⟨tag, port, unit, raw, hv h⟩
  | stage =>
    obtain ⟨tag, port, unit, raw, h⟩ := h
    exact ⟨tag, port, unit, raw, hv h⟩

/-- The loader works for the run that awaits the load. -/
theorem AwaitsLoad.works {p : Part} {plan : LoadPlan} {c : LoadCursor} (h : AwaitsLoad plan.requester p)
    (hi : p.ldr.image = .partly) (hp : p.ldr.plan = some plan) (hc : plan.cursor = some c) : loaderWorks p = true := by
  unfold loaderWorks
  rw [hi, hp]
  cases hq : plan.requester with
  | search =>
    rw [hq] at h
    simp [hc, hq, h.2]
  | boot =>
    rw [hq] at h
    obtain ⟨tag, port, unit, raw, h⟩ := h
    simp [hc, hq, h.verbRun]
  | stage =>
    rw [hq] at h
    obtain ⟨tag, port, unit, raw, h⟩ := h
    simp [hc, hq, h.verbRun]

/-- A step of a load has sent out its request, or ends the load with its requester waiting for that end. -/
def LoadGoes (b : Bool) (rq : LoadRequester) (x : Part × Option LoadEnd) : Prop :=
  (x.2 = none → Sound b x.1) ∧ ∀ e, x.2 = some e → AwaitsLoad rq x.1 ∧ (e = .loaded → x.1.ldr.image = .staged)

theorem imageSound_partly {p : Part} {plan : LoadPlan} (hi : p.ldr.image = .partly) (hp : p.ldr.plan = some plan) :
    imageSound p = true := by rw [imageSound, hi, hp]

section Load

variable {b : Bool} {p : Part} {plan : LoadPlan}

/-- The state's ready fields with a new plan under PARTIAL. -/
theorem Ready.withPlan (h : Ready p) (hi : p.ldr.image = .partly) (c : LoadCursor) : Ready (setPlan plan c p) :=
  { h with plan := imageSound_partly (p := setPlan plan c p) hi rfl }

theorem AwaitsLoad.withPlan {rq : LoadRequester} (h : AwaitsLoad rq p) (hi : p.ldr.image = .partly) (c : LoadCursor) :
    AwaitsLoad rq (setPlan plan c p) := h.congr (h.standing.toReady.withPlan hi c) rfl rfl rfl

/-- Notices, records and health leave the run that awaits the load. -/
theorem AwaitsLoad.failLoad {rq : LoadRequester} (h : AwaitsLoad rq p) (o : AttemptOutcome) (d : Nat) :
    LoadGoes b rq (failLoad plan o d p) := by
  refine ⟨nofun, ?_⟩
  rintro e ⟨⟩
  exact ⟨h.congr { h.standing.toReady with } rfl rfl rfl, nofun⟩

theorem AwaitsLoad.defectiveAt {rq : LoadRequester} (h : AwaitsLoad rq p) (a : Nat) : AwaitsLoad rq (defectiveAt a p) := by
  unfold Machine.defectiveAt
  split
  · exact h.congr { h.standing.toReady with } rfl rfl rfl
  · exact h

theorem defectiveAt_ldr (a : Nat) (p : Part) : (defectiveAt a p).ldr = p.ldr := by
  unfold Machine.defectiveAt
  split <;> rfl

section Step

variable (h : AwaitsLoad plan.requester p) (hi : p.ldr.image = .partly)

include h in
theorem loadGoes_completeLoad : LoadGoes b plan.requester (completeLoad plan p) := by
  have hr := h.standing.toReady
  have hq : ∀ (x : Console) (y : Sre), y.run = p.sre.run → y.question = p.sre.question →
      y.questionTimer = p.sre.questionTimer → y.waitTimer = p.sre.waitTimer →
      AwaitsLoad plan.requester
        { p with ldr := { p.ldr with image := .staged, plan := some { plan with cursor := none } }, sre := y, con := x } :=
    fun x y h1 h2 h3 h4 =>
      h.congr
        { hr with
          image := nofun, plan := rfl, question := h2.trans hr.question, questionTimer := h3.trans hr.questionTimer
          waitTimer := h4.trans hr.waitTimer } rfl h1 rfl
  refine ⟨nofun, ?_⟩
  unfold completeLoad
  rintro e ⟨⟩
  dsimp only
  split
  · exact ⟨hq _ _ rfl rfl rfl rfl, fun _ => rfl⟩
  · exact ⟨hq _ _ rfl rfl rfl rfl, fun _ => rfl⟩

include h hi

theorem loadGoes_loadTxn (kind : TxnKind) (c : LoadCursor) : LoadGoes b plan.requester (loadTxn kind plan c p) := by
  have hq : AwaitsLoad plan.requester (setPlan plan c p) := h.withPlan hi c
  have hs := hq.standing
  unfold loadTxn followTo
  obtain ⟨hj, he⟩ | ⟨r, -, he⟩ := requestTxn_cases kind c.address .loader (setPlan plan c p)
  · rw [he]
    have hw : loaderWorks (setPlan plan c p) = true :=
      AwaitsLoad.works (plan := { plan with cursor := some c }) (c := c) hq hi rfl rfl
    exact ⟨fun _ => hs.toReady.sound_txn hs.holder hs.noRelease (t := ⟨kind, c.address, .loader⟩) hw hj, nofun⟩
  · rw [he]
    exact hq.failLoad _ _

theorem loadGoes_beginHandoff : LoadGoes b plan.requester (beginHandoff plan p) := by
  unfold beginHandoff
  split
  · exact loadGoes_completeLoad h
  · exact loadGoes_loadTxn h hi _ _

theorem loadGoes_verifyFrom (k : Nat) : LoadGoes b plan.requester (verifyFrom k plan p) := by
  unfold verifyFrom
  split
  · exact loadGoes_beginHandoff h hi
  · exact loadGoes_loadTxn h hi _ _

theorem loadGoes_loaderRead (r : ReadResult) (c : LoadCursor) (s : Segment) :
    LoadGoes b plan.requester (loaderRead r plan c s p) := by
  cases r with
  | data bytes => exact loadGoes_loadTxn h hi _ _
  | _ => exact h.failLoad _ _

theorem loadGoes_loadBlock (c : LoadCursor) (s : Segment) : LoadGoes b plan.requester (loadBlock plan c s p) := by
  have hq : AwaitsLoad plan.requester (setPlan plan c p) := h.withPlan hi c
  unfold loadBlock followTo
  obtain ⟨e, op, he, hx⟩ | ⟨r, hx⟩ :=
    requestRead_cases plan.image.port plan.image.unit c.block .loader (setPlan plan c p)
  · rw [hx]
    have hw : loaderWorks (setPlan plan c p) = true :=
      AwaitsLoad.works (plan := { plan with cursor := some c }) (c := c) hq hi rfl rfl
    exact ⟨fun _ => hq.standing.sound_exchange he hw, nofun⟩
  · rw [hx]
    exact loadGoes_loaderRead hq hi r c s

theorem loadGoes_writeSegment (k : Nat) : LoadGoes b plan.requester (writeSegment k plan p) := by
  unfold writeSegment
  split
  · split
    · exact loadGoes_verifyFrom h hi _
    · exact loadGoes_beginHandoff h hi
  · dsimp only
    split
    · exact loadGoes_loadTxn h hi _ _
    · exact loadGoes_loadBlock h hi _ _

theorem loadGoes_endDataSegment (c : LoadCursor) (s : Segment) : LoadGoes b plan.requester (endDataSegment plan c s p) := by
  unfold endDataSegment
  dsimp only
  split
  · exact loadGoes_writeSegment (plan := { plan with written := plan.written ++ [(s.index, crc32Final c.crc)] }) h hi _
  · exact (h.withPlan hi c).failLoad _ _

theorem loadGoes_writeDone (c : LoadCursor) (s : Segment) : LoadGoes b plan.requester (writeDone plan c s p) := by
  unfold writeDone
  dsimp only
  split
  · split
    · exact loadGoes_loadTxn h hi _ _
    · exact loadGoes_writeSegment h hi _
  · split
    · exact loadGoes_endDataSegment h hi _ _
    · split
      · exact loadGoes_loadBlock h hi _ _
      · exact loadGoes_loadTxn h hi _ _

theorem loadGoes_verifyDone (c : LoadCursor) (s : Segment) (w : Word32) :
    LoadGoes b plan.requester (verifyDone plan c s w p) := by
  unfold verifyDone
  dsimp only
  split
  · exact loadGoes_loadTxn h hi _ _
  · split
    · exact loadGoes_verifyFrom h hi _
    · exact ((h.withPlan hi _).defectiveAt _).failLoad _ _

theorem loadGoes_handoffDone (c : LoadCursor) : LoadGoes b plan.requester (handoffDone plan c p) := by
  unfold handoffDone
  dsimp only
  split
  · exact loadGoes_completeLoad (h.congr { h.standing.toReady with } rfl rfl rfl)
  · exact loadGoes_loadTxn h hi _ _

theorem loadGoes_loaderOutcome (o : TxnOutcome) (c : LoadCursor) : LoadGoes b plan.requester (loaderOutcome o plan c p) := by
  unfold loaderOutcome
  split
  · split
    · exact loadGoes_handoffDone h hi _
    · exact loadGoes_writeDone h hi _ _
    · exact loadGoes_verifyDone h hi _ _ _
    · exact ⟨fun _ => h.standing.sound, nofun⟩
  · exact (h.defectiveAt _).failLoad _ _

end Step

theorem loadGoes_beginLoad {rq : LoadRequester} (h : AwaitsLoad rq p) (image : Image) (fields : AttemptFields)
    (reason : BootReason) (tag : Option Tag) : LoadGoes b rq (beginLoad image fields reason rq tag p) := by
  have hq : ∀ (plan : LoadPlan) (c : Console),
      AwaitsLoad rq { p with ldr := { image := .partly, plan := some plan, handoff := none }, con := c } := fun _ _ =>
    h.congr { h.standing.toReady with image := nofun, plan := rfl } rfl rfl rfl
  exact loadGoes_writeSegment (hq _ _) rfl 1

end Load

/-! ### Search -/

section Search

variable {b : Bool} {p : Part} (h : Searching p)

include h

/-- A change of the run leaves it ready. -/
theorem Searching.setRun (f : SearchRun → SearchRun) : Searching (setRun f p) := by
  have hr : (Machine.setRun f p).sre.run ≠ none := by
    obtain ⟨r, hr⟩ := Option.ne_none_iff_exists'.mp h.run
    simp [Machine.setRun, setSre, hr]
  exact { h with run := hr }

theorem Searching.setMode {phase : AutoPhase} (hp : phase ≠ .check) : Searching (setMode (.auto phase) p) :=
  { h with mode := ⟨phase, rfl, hp⟩ }

theorem Searching.spc {x : Spc} (hx : operations { p with spc := x } = []) : Searching { p with spc := x } :=
  { h with ops := hx }

theorem Searching.appendRunRecord (o : AttemptOutcome) (d : Option Nat) (i : Option Word32) :
    Searching (appendRunRecord o d i p) := { h with }

theorem Searching.countTry : Searching (countTry p) := h.setRun _

/-- The part after the run's end is ready. -/
theorem Searching.endRun : Ready (endRun p) := { h.toReady with waitTimer := rfl, questionTimer := rfl }

/-- An attempt waits for its exchange, or has its outcome. -/
theorem startAttempt_goes (port : Port) (unit : Nat) :
    ((startAttempt port unit p).2 = none → Sound b (startAttempt port unit p).1) ∧
      ∀ o, (startAttempt port unit p).2 = some o → Searching (startAttempt port unit p).1 := by
  have hq : Searching (Machine.setMode (.auto .search) (Machine.setRun (fun r => { r with stage := .probing }) p)) :=
    (h.setRun _).setMode nofun
  have hr : requesterRuns (Machine.setMode (.auto .search) (Machine.setRun (fun r => { r with stage := .probing }) p)) .search
      = true := by
    obtain ⟨r, hr⟩ := Option.ne_none_iff_exists'.mp h.run
    simp [requesterRuns, Machine.setMode, Machine.setRun, setSre, hr]
  unfold startAttempt
  dsimp only
  split
  · exact ⟨nofun, fun _ _ => hq⟩
  · split
    · exact ⟨nofun, fun _ _ => hq⟩
    · unfold followTo
      obtain ⟨e, he, hx⟩ | ⟨r, hx⟩ | ⟨e, x, he, hx⟩ := requestProbe_cases port unit .search
        (Machine.setMode (.auto .search) (Machine.setRun (fun r => { r with stage := .probing }) p))
      · rw [hx]
        exact ⟨fun _ => hq.standing.sound_exchange he hr, nofun⟩
      · rw [hx]
        dsimp only
        split
        · exact ⟨nofun, fun _ _ => hq⟩
        · exact ⟨fun _ => hq.sound, nofun⟩
      · rw [hx]
        have hu : (setUnit unit x e).op = none := op_none_of_operations (e := e) hq.ops he
        exact ⟨nofun, fun _ _ => hq.spc (operations_setEntry_nil hq.ops he hu)⟩

theorem sound_endRound : Sound b (endRound p) := by
  unfold endRound
  split
  · exact absurd ‹_› h.run
  · rename_i r _
    dsimp only
    split
    · exact sound_goIdle { h.toReady with waitTimer := rfl, questionTimer := rfl } rfl h.check
    · refine ⟨?_, fun _ t ht => by cases h.txn.symm.trans ht⟩
      simp only [slotSound, Bool.and_eq_true]
      refine ⟨⟨⟨⟨HoldsSearch.sound ⟨h.slot, ⟨.wait, rfl, nofun⟩, nofun, h.check, h.verbRun⟩,
        requestsSound_of_quiet h.txn h.ops h.abort⟩, h.plan⟩, ?_⟩, ?_⟩
      · exact Ready.releaseSound (p := Machine.setMode (.auto .wait) p) { h.toReady with } nofun
      · simp [waitsSound, setSre, Machine.setMode, h.question, h.questionTimer]

end Search

section Search

variable {b : Bool} {p : Part}

theorem tryUnit_goes (x : Position) (n : Nat) (h : Searching p) :
    ((tryUnit x n p).2 = true → Sound b (tryUnit x n p).1) ∧ ((tryUnit x n p).2 = false → Searching (tryUnit x n p).1) := by
  induction n generalizing p with
  | zero => exact ⟨nofun, fun _ => h⟩
  | succ n ih =>
    obtain ⟨hnone, hsome⟩ := startAttempt_goes (b := b) h x.spec.port x.unit
    unfold tryUnit
    dsimp only
    split
    · exact ⟨fun _ => hnone ‹_›, nofun⟩
    · rename_i o ho
      have hc := ((hsome o ho).appendRunRecord o none none).countTry
      split
      · exact ih hc
      · exact ⟨nofun, fun _ => hc⟩

theorem walk_goes (xs : List Position) (h : Searching p) :
    ((walk xs p).2 = true → Sound b (walk xs p).1) ∧ ((walk xs p).2 = false → Searching (walk xs p).1) := by
  induction xs generalizing p with
  | nil => exact ⟨nofun, fun _ => h⟩
  | cons x xs ih =>
    obtain ⟨htrue, hfalse⟩ := tryUnit_goes (b := b) x x.spec.tries (h.setRun fun r =>
      { r with pass := x.pass, entry := x.entry, unit := x.unit, triesUsed := 0 })
    unfold walk
    dsimp only
    split
    · rename_i ht
      exact ⟨fun _ => htrue ht, fun hf => by cases hf.symm.trans ht⟩
    · rename_i ht
      exact ih (hfalse (Bool.eq_false_iff.mpr ht))

theorem sound_walkOn (xs : List Position) (h : Searching p) : Sound b (walkOn xs p) := by
  obtain ⟨htrue, hfalse⟩ := walk_goes (b := b) xs h
  unfold walkOn
  dsimp only
  split
  · exact htrue ‹_›
  · rename_i ht
    exact sound_endRound (hfalse (by simpa using ht))

theorem clearFault_ops (port : Port) (p : Part) : operations (clearFault port p) = operations p := by
  unfold clearFault
  split
  · rfl
  · rename_i e he
    split
    · exact operations_setEntry_same (e' := { e with state := .idle, count := 0 }) he rfl
    · rfl

theorem clearFault_eq (port : Port) (p : Part) : ∃ x c, clearFault port p = { p with spc := x, con := c } := by
  unfold clearFault
  split
  · exact ⟨_, _, rfl⟩
  · split
    · exact ⟨_, _, rfl⟩
    · exact ⟨_, _, rfl⟩

theorem Searching.clearFault (port : Port) (h : Searching p) : Searching (clearFault port p) := by
  have ho := (clearFault_ops port p).trans h.ops
  obtain ⟨x, c, he⟩ := clearFault_eq port p
  rw [he] at ho ⊢
  exact { h with ops := ho }

theorem Searching.clearFaults (h : Searching p) : Searching (clearFaults p) :=
  (((h.clearFault .sp0).clearFault .sp1).clearFault .sp2).clearFault .sp3

theorem sound_beginRound (n : Nat) (h : Searching p) : Sound b (beginRound n p) := by
  unfold beginRound
  refine sound_walkOn _ (Searching.clearFaults (Searching.setMode ?_ nofun))
  have hr := h.setRun fun r =>
    { r with round := n, pass := .normal, entry := 0, unit := 0, triesUsed := 0, stage := .probing }
  exact { hr with waitTimer := rfl }

theorem sound_beginRun (origin : Origin) (tag : Option Tag) (h : Ready p) (hc : p.mck.run = none)
    (ha : p.sup.abortPending = false) : Sound b (beginRun origin tag p) :=
  sound_beginRound _ ⟨{ h with waitTimer := rfl }, ⟨rfl, ⟨.search, rfl, nofun⟩, nofun, hc, rfl⟩, ha⟩

theorem sound_afterAttempt (o : AttemptOutcome) (h : Searching p) : Sound b (afterAttempt o p) := by
  unfold afterAttempt
  split
  · rename_i r e _ _
    obtain ⟨htrue, hfalse⟩ := tryUnit_goes (b := b) ⟨r.pass, r.entry, r.unit, e⟩ (e.tries - r.triesUsed) h
    dsimp only
    split
    · split
      · exact htrue ‹_›
      · rename_i ht
        exact sound_walkOn _ ((hfalse (by simpa using ht)).setMode nofun)
    · exact sound_walkOn _ (h.setMode nofun)
  · exact h.sound

theorem sound_endAttempt (o : AttemptOutcome) (d : Option Nat) (i : Option Word32) (h : Searching p) :
    Sound b (endAttempt o d i p) := sound_afterAttempt o (h.appendRunRecord o d i).countTry

/-- The end of a run and a release act on different blocks. -/
theorem endRun_release (kind : ReleaseKind) (tag : Option Tag) (p : Part) :
    endRun (release kind tag p) = release kind tag (endRun p) := by
  unfold release
  rw [endRun_ldr]
  cases p.ldr.plan <;> rfl

theorem sound_searchLoadEnd (e : LoadEnd) (h : Searching p) (he : e = .loaded → p.ldr.image = .staged) :
    Sound b (searchLoadEnd e p) := by
  cases e with
  | loaded =>
    unfold searchLoadEnd
    rw [endRun_release]
    exact sound_release h.endRun (he rfl) rfl h.check h.abort _ _
  | failed o d => exact sound_afterAttempt o h.countTry
  | aborted => exact h.sound

theorem sound_searchCandidate (image : Image) (h : Searching p) : Sound b (searchCandidate image p) := by
  unfold searchCandidate
  split
  · exact sound_endAttempt _ _ _ h
  · split
    · exact sound_enterHalted (h.appendRunRecord _ _ _).endRun rfl h.check _
    · split
      · exact h.sound
      · rename_i r hr
        have hl : AwaitsLoad .search (setMode (.auto .load) (setRun (fun r => { r with stage := .loading }) p)) :=
          ⟨(h.setRun _).setMode nofun, by simp [setMode, setRun, setSre, hr]⟩
        obtain ⟨hnone, hsome⟩ := loadGoes_beginLoad (b := b) hl image (runFields p) r.origin.reason r.tag
        exact sound_follow hnone fun e he => sound_searchLoadEnd e (hsome e he).1.1 (hsome e he).2

theorem sound_raiseQuestion (port : Port) (unit : Nat) (held : HeldBlock) (h : Searching p) :
    Sound b (raiseQuestion port unit held p) := by
  obtain ⟨r, hr⟩ := Option.ne_none_iff_exists'.mp h.run
  refine ⟨?_, fun _ t ht => by cases h.txn.symm.trans ht⟩
  simp only [slotSound, Bool.and_eq_true]
  refine ⟨⟨⟨⟨HoldsSearch.sound ⟨h.slot, ⟨.question, rfl, nofun⟩, ?_, h.check, h.verbRun⟩,
    requestsSound_of_quiet h.txn h.ops h.abort⟩, h.plan⟩, ?_⟩, ?_⟩
  · simp [raiseQuestion, setSre, hr]
  · exact Ready.releaseSound (p := setMode (.auto .question) p) { h.toReady with } nofun
  · simp [waitsSound, raiseQuestion, setSre, hr, h.waitTimer]

theorem sound_searchClassified (block : List Byte) (capacity : Nat) (c : Classification) (h : Searching p) :
    Sound b (searchClassified block capacity c p) := by
  unfold searchClassified
  split
  · exact sound_searchCandidate _ h
  · split
    · exact sound_raiseQuestion _ _ _ h
    · exact sound_endAttempt _ _ _ h
  · exact sound_endAttempt _ _ _ h

theorem sound_searchBlock0 (capacity : Nat) (r : ReadResult) (h : Searching p) : Sound b (searchBlock0 capacity r p) := by
  unfold searchBlock0
  split
  · exact sound_endAttempt _ _ _ h
  · split
    · exact sound_searchClassified _ _ _ h
    · exact h.sound

theorem sound_searchProbe (r : ProbeResult) (h : Searching p) : Sound b (searchProbe r p) := by
  unfold searchProbe
  split
  · exact sound_endAttempt _ _ _ h
  · split
    · rename_i capacity _ _ _ e run _ hrun
      have hq := h.setRun fun r => { r with stage := .block0 capacity }
      exact sound_requestRead hq.standing (by simp [requesterRuns, setRun, setSre, hrun]) fun res =>
        sound_searchBlock0 _ _ hq
    · exact h.sound

theorem sound_searchResult (r : OpResult) (h : Searching p) : Sound b (searchResult r p) := by
  unfold searchResult
  split
  · exact sound_searchProbe _ h
  · exact sound_searchBlock0 _ _ h
  · exact h.sound

end Search

end Sys2Proof.Proofs

/-! PROOFS. The runs of the verbs and of the checker from a part ready for their next operation; aborts; and the ends of requests
in flight (R6, R76, R114, R146). -/

namespace Sys2Proof.Proofs

open Sys2Proof Sys2Proof.Machine

/-! ### The verbs that hold the slot -/

section Verbs

variable {b : Bool} {p : Part} {v : VerbRun}

theorem Serving.setVerbRun {w : VerbRun} (h : Serving v p) (hw : w.verb = v.verb) : Serving w (setVerbRun w p) :=
  { h with
    slot := hw ▸ h.slot
    mode := hw ▸ h.mode
    verbRun := rfl }

theorem Serving.spc (h : Serving v p) {x : Spc} (hx : operations { p with spc := x } = []) : Serving v { p with spc := x } :=
  { h with ops := hx }

theorem Serving.con (h : Serving v p) (c : Console) : Serving v { p with con := c } := { h with }

theorem sound_endStart (tag : Option Tag) (port : Port) (unit : Nat) (o : AttemptOutcome) (d : Option Nat) (i : Option Word32)
    (h : Serving v p) : Sound b (endStart tag port unit o d i p) := sound_goIdle { h.toReady with } h.run h.check

theorem sound_startLoadEnd (boot : Bool) (tag : Option Tag) (e : LoadEnd) (h : Serving v p)
    (he : e = .loaded → p.ldr.image = .staged) : Sound b (startLoadEnd boot tag e p) := by
  unfold startLoadEnd
  split
  · exact sound_release h.toReady (he rfl) h.run h.check h.abort _ _
  · exact h.sound_goIdle

theorem sound_startCandidate {boot : Bool} {tag : Option Tag} {port : Port} {unit : Nat} {raw : Bool} {st : StartStage}
    (image : Image) (h : Serving (.start boot tag port unit raw st) p) :
    Sound b (startCandidate boot tag port unit raw image p) := by
  unfold startCandidate
  split
  · exact sound_goIdle { h.toReady with } h.run h.check
  · have hv : Serving (.start boot tag port unit raw .loading) (setVerbRun (.start boot tag port unit raw .loading) p) :=
      h.setVerbRun (by cases boot <;> rfl)
    have hl : AwaitsLoad (if boot = true then .boot else .stage) (setVerbRun (.start boot tag port unit raw .loading) p) := by
      cases boot with
      | true => exact ⟨tag, port, unit, raw, hv⟩
      | false => exact ⟨tag, port, unit, raw, hv⟩
    obtain ⟨hnone, hsome⟩ := loadGoes_beginLoad (b := b) hl image (manualFields port unit)
      (if boot then .manualBoot else .manualGo) tag
    refine sound_follow hnone fun e he => ?_
    obtain ⟨ha, hst⟩ := hsome e he
    cases boot with
    | true =>
      obtain ⟨_, _, _, _, hs⟩ := ha
      exact sound_startLoadEnd _ _ _ hs hst
    | false =>
      obtain ⟨_, _, _, _, hs⟩ := ha
      exact sound_startLoadEnd _ _ _ hs hst

theorem sound_startBlock0 {boot : Bool} {tag : Option Tag} {port : Port} {unit : Nat} {raw : Bool} {st : StartStage}
    (capacity : Nat) (r : ReadResult) (h : Serving (.start boot tag port unit raw st) p) :
    Sound b (startBlock0 boot tag port unit raw capacity r p) := by
  unfold startBlock0
  split
  · exact sound_endStart _ _ _ _ _ _ h
  · dsimp only
    split
    · exact sound_startCandidate _ h
    · exact sound_endStart _ _ _ _ _ _ h

theorem sound_startProbe {boot : Bool} {tag : Option Tag} {port : Port} {unit : Nat} {raw : Bool} {st : StartStage}
    (r : ProbeResult) (h : Serving (.start boot tag port unit raw st) p) :
    Sound b (startProbe boot tag port unit raw r p) := by
  unfold startProbe
  split
  · exact sound_endStart _ _ _ _ _ _ h
  · rename_i capacity _
    have hv : Serving (.start boot tag port unit raw (.block0 capacity))
        (setVerbRun (.start boot tag port unit raw (.block0 capacity)) p) := h.setVerbRun (by cases boot <;> rfl)
    exact sound_requestRead hv.standing rfl fun r => sound_startBlock0 _ _ hv

theorem sound_beginStart {boot : Bool} {tag : Option Tag} {port : Port} {unit : Nat} {raw : Bool}
    (h : Serving (.start boot tag port unit raw .probing) p) : Sound b (beginStart boot tag port unit raw p) := by
  unfold beginStart
  split
  · exact sound_endStart _ _ _ _ _ _ h
  · split
    · exact sound_endStart _ _ _ _ _ _ h
    · exact sound_requestProbe h.standing (by simp [requesterRuns, h.verbRun]) fun r x hx => sound_startProbe _ (h.spc hx)

theorem sound_endProbe (tag : Option Tag) (port : Port) (unit : Nat) (r : ProbeResult) (h : Serving v p) :
    Sound b (endProbe tag port unit r p) := sound_goIdle { h.toReady with } h.run h.check

theorem sound_endVolume (tag : Option Tag) (lines : List (List Field)) (h : Serving v p) : Sound b (endVolume tag lines p) :=
  sound_goIdle { h.toReady with } h.run h.check

theorem sound_endPeek (tag : Option Tag) (words : List (Nat × PeekWord)) (h : Serving v p) : Sound b (endPeek tag words p) :=
  sound_goIdle { h.toReady with } h.run h.check

theorem sound_endPoke (tag : Option Tag) (o : TxnOutcome) (h : Serving v p) : Sound b (endPoke tag o p) := by
  cases o <;> exact sound_goIdle { h.toReady with } h.run h.check

theorem Serving.clearFault (h : Serving v p) (port : Port) : Serving v (clearFault port p) := by
  have ho := (clearFault_ops port p).trans h.ops
  obtain ⟨x, c, he⟩ := clearFault_eq port p
  rw [he] at ho ⊢
  exact { h with ops := ho }

theorem sound_beginProbe {tag : Option Tag} {port : Port} {unit : Nat} (h : Serving (.probe tag port unit) p) :
    Sound b (beginProbe tag port unit p) := by
  have hc := h.clearFault port
  have hend : ∀ {q}, Serving (.probe tag port unit) q →
      Sound b (follow (requestProbe port unit .probeVerb q) fun r p => endProbe tag port unit r p) := fun hq =>
    sound_requestProbe hq.standing (by simp [requesterRuns, hq.verbRun]) fun r x hx => sound_endProbe _ _ _ _ (hq.spc hx)
  unfold beginProbe
  dsimp only
  split
  · rename_i e he
    exact hend (hc.spc (operations_setEntry_nil hc.ops he (e' := { e with count := 0 })
      (op_none_of_operations (e := e) hc.ops he)))
  · exact hend hc

theorem sound_volumeRead (tag : Option Tag) (port : Port) (unit capacity : Nat) (r : ReadResult) (h : Serving v p) :
    Sound b (volumeRead tag port unit capacity r p) := by
  cases r <;> exact sound_endVolume _ _ h

theorem sound_volumeProbe {tag : Option Tag} {port : Port} {unit : Nat} {c : Option Nat} (r : ProbeResult)
    (h : Serving (.volume tag port unit c) p) : Sound b (volumeProbe tag port unit r p) := by
  cases r with
  | ready capacity =>
    have hv : Serving (.volume tag port unit (some capacity)) (setVerbRun (.volume tag port unit (some capacity)) p) :=
      h.setVerbRun rfl
    exact sound_requestRead hv.standing rfl fun r => sound_volumeRead _ _ _ _ _ hv
  | _ => exact sound_endVolume _ _ h

theorem sound_beginVolume {tag : Option Tag} {port : Port} {unit : Nat} (h : Serving (.volume tag port unit none) p) :
    Sound b (beginVolume tag port unit p) :=
  sound_requestProbe h.standing (by simp [requesterRuns, h.verbRun]) fun r x hx => sound_volumeProbe _ (h.spc hx)

theorem sound_verbResult (r : OpResult) (h : Serving v p) : Sound b (verbResult r p) := by
  have hrun : ∀ {w}, p.sup.verbRun = some w → Serving w p := fun hw => by
    cases h.verbRun.symm.trans hw
    exact h
  unfold verbResult
  split
  · exact sound_endProbe _ _ _ _ h
  · exact sound_volumeProbe _ (hrun ‹_›)
  · exact sound_volumeRead _ _ _ _ _ h
  · exact sound_startProbe _ (hrun ‹_›)
  · exact sound_startBlock0 _ _ (hrun ‹_›)
  · exact h.sound

/-- The transaction of a verb: it goes out, or its refusal is followed. -/
theorem sound_requestTxn {kind : TxnKind} {a : Nat} {rq : TxnRequester} {f : TxnRefusal → Part → Part} (h : Standing p)
    (hr : txnRequesterRuns p rq = true) (hf : ∀ r, Sound b (f r p)) : Sound b (follow (requestTxn kind a rq p) f) := by
  obtain ⟨hj, he⟩ | ⟨r, -, he⟩ := requestTxn_cases kind a rq p
  · rw [he]
    exact h.toReady.sound_txn h.holder h.noRelease (t := ⟨kind, a, rq⟩) hr hj
  · rw [he]
    exact hf r

theorem sound_peekFrom (tag : Option Tag) (n : Nat) {a : Nat} {words : List (Nat × PeekWord)} (h : Serving v p)
    (hv : v.verb = .peek) : Sound b (peekFrom tag a words n p) := by
  induction n generalizing a words v p with
  | zero => exact sound_endPeek _ _ h
  | succ n ih =>
    have hs : Serving (.peek tag a (n + 1) words) (setVerbRun (.peek tag a (n + 1) words) p) := h.setVerbRun hv.symm
    exact sound_requestTxn hs.standing rfl fun r => ih hs rfl

theorem sound_beginPoke {tag : Option Tag} (a x : Nat) (h : Serving (.poke tag) p) : Sound b (beginPoke tag a x p) :=
  sound_requestTxn h.standing (by simp [txnRequesterRuns, h.verbRun]) fun r =>
    sound_goIdle { h.toReady with } h.run h.check

end Verbs

/-! ### The checker -/

section Check

variable {b : Bool} {p : Part}

theorem Checking.setCheck (r : CheckRun) (h : Checking p) : Checking (setCheck r p) := { h with }

theorem Checking.setHealth (i : Idx) (x : Health) (h : Checking p) : Checking (setHealth i x p) := { h with }

theorem Checking.raise (code : Nat) (tag : Option Tag) (fs : List Field) (h : Checking p) : Checking (raise code tag fs p) :=
  { h with }

theorem recordDefect_run (d : Defect) (p : Part) : (recordDefect d p).mck.run = p.mck.run := by
  unfold recordDefect
  dsimp only
  split <;> rfl

theorem Checking.recordDefect (d : Defect) (h : Checking p) : Checking (recordDefect d p) := { h with }

theorem Checking.discardForCheck (h : Checking p) : Checking (discardForCheck p) := by
  unfold Machine.discardForCheck
  split
  · exact { h with image := nofun, plan := rfl }
  · exact { h with image := nofun, plan := rfl }
  · exact h

/-- The run's word goes out. -/
theorem Checking.sound_txn (kind : TxnKind) (a : Nat) (h : Checking p) (hc : p.mck.run ≠ none) :
    Sound b (requestTxn kind a .checker p).1 := by
  obtain ⟨hj, he⟩ | ⟨r, -, he⟩ := requestTxn_cases kind a .checker p
  · rw [he]
    exact h.toReady.sound_txn (h.toHoldsCheck.sound hc) h.noRelease (t := ⟨kind, a, .checker⟩)
      (Option.isSome_iff_ne_none.mpr hc) hj
  · rw [he]
    exact h.sound hc

theorem sound_issueCheck (r : CheckRun) (h : Checking p) : Sound b (issueCheck r p) := by
  unfold issueCheck
  split
  · exact (h.setCheck r).sound_txn _ _ nofun
  · dsimp only
    split
    · exact (h.setCheck _).sound_txn _ _ nofun
    · exact (h.discardForCheck.setCheck _).sound_txn _ _ nofun

theorem sound_beginRegion (i : Idx) (r : CheckRun) (h : Checking p) : Sound b (beginRegion i r p) := by
  unfold beginRegion
  split
  · exact (h.setCheck _).sound nofun
  · exact sound_issueCheck _ h

theorem sound_beginPass (n : Nat) (r : CheckRun) (h : Checking p) : Sound b (beginPass n r p) := by
  unfold beginPass
  split
  · exact (h.setCheck _).sound nofun
  · exact sound_beginRegion _ _ h

theorem sound_beginCheck (origin : CheckOrigin) (tag : Option Tag) (asked : CheckKind) (regions : List Idx) (passes : Nat)
    (stop : Bool) (scope : List Field) (h : Checking p) :
    Sound b (beginCheck origin tag asked regions passes stop scope p) := sound_beginPass _ _ { h with }

/-- A word of the run has led to the next request, or the run is at its end. -/
def CheckGoes (b : Bool) (x : Part × CheckCourse) : Prop :=
  (x.2 = .goesOn → Sound b x.1) ∧ (x.2 ≠ .goesOn → Checking x.1 ∧ x.1.mck.run ≠ none)

theorem checkGoes_endPass (r : CheckRun) (h : Checking p) : CheckGoes b (endPass r p) := by
  have hn : Checking (Machine.raise 501 r.tag [.num r.pass, .num (defectTotal (Machine.setCheck r p).mck)]
      (Machine.setCheck r p)) := (h.setCheck r).raise _ _ _
  unfold endPass
  dsimp only
  split
  · exact ⟨nofun, fun _ => ⟨hn, nofun⟩⟩
  · exact ⟨fun _ => sound_beginPass _ _ hn, fun hx => absurd rfl hx⟩

theorem checkGoes_advanceCheck (r : CheckRun) (h : Checking p) : CheckGoes b (advanceCheck r p) := by
  have hgo : ∀ {q}, Sound b q → CheckGoes b (q, .goesOn) := fun hq => ⟨fun _ => hq, fun hx => absurd rfl hx⟩
  unfold advanceCheck
  dsimp only
  split
  · exact hgo ((h.setCheck _).sound nofun)
  · split
    · exact hgo (sound_issueCheck _ h)
    · split
      · exact hgo (sound_issueCheck _ h)
      · have hr : ∀ r, Checking (endRegion r p) := fun _ => h.setHealth _ _
        split
        · exact hgo (sound_beginRegion _ _ (hr _))
        · exact checkGoes_endPass _ (hr _)

theorem checkGoes_checkOutcome (o : TxnOutcome) (r : CheckRun) (h : Checking p) : CheckGoes b (checkOutcome o r p) := by
  unfold checkOutcome
  split
  · exact checkGoes_advanceCheck _ h
  · exact ⟨fun _ => sound_issueCheck _ h, fun hx => absurd rfl hx⟩
  · dsimp only
    split
    · exact ⟨nofun, fun _ => ⟨(((h.recordDefect _).setCheck _).setHealth _ _).raise _ _ _, nofun⟩⟩
    · exact checkGoes_advanceCheck _ (h.recordDefect _)

theorem sound_endCheck (h : Checking p) (hc : p.mck.run ≠ none) : Sound b (endCheck p) := by
  have hr : Ready { p with mck := { p.mck with run := none } } := { h.toReady with }
  unfold endCheck
  split
  · exact absurd ‹_› hc
  · dsimp only
    split
    · exact sound_goIdle hr h.run rfl
    · split
      · exact sound_enterHalted hr h.run rfl _
      · exact sound_beginRun _ _ hr rfl h.abort

theorem sound_followCheck {x : Part × CheckCourse} (h : CheckGoes b x) : Sound b (followCheck x) := by
  unfold followCheck
  split
  · exact h.1 ‹_›
  · rename_i hx
    obtain ⟨hc, hr⟩ := h.2 (by rw [hx]; nofun)
    exact sound_endCheck hc hr
  · rename_i hx
    obtain ⟨hc, hr⟩ := h.2 (by rw [hx]; nofun)
    unfold completeCheck
    split
    · exact absurd ‹_› hr
    · exact sound_endCheck (hc.raise _ _ _) hr

end Check

/-! ### The end of an abort -/

section Abort

variable {b : Bool} {p : Part}

/-- The part while the abort of its operation is taken: no memory transaction is in flight, and a port operation is one that what
runs waits for. -/
structure Halting (p : Part) : Prop where
  txn : p.mmp.txn = none
  ops : operations p = [] ∨ ∃ f, operations p = [f] ∧ requesterRuns p f.requester = true
  treset : p.rlu.treset = .asserted
  released : p.rlu.released = none
  window : p.rlu.windowTimer = none
  closed : p.tgt.isOpen = false
  image : p.ldr.image ≠ .released
  plan : imageSound p = true
  waits : waitsSound p = true
  holder : holderSound p = true

/-- With no requester running nothing is in flight. -/
theorem Halting.quiet (h : Halting p) (hr : ∀ rq, requesterRuns p rq = false) : operations p = [] := by
  obtain ho | ⟨f, -, hf⟩ := h.ops
  · exact ho
  · cases (hr f.requester).symm.trans hf

/-- Ready once nothing is in flight and no question is pending. -/
theorem Halting.ready (h : Halting p) (ho : operations p = []) (hq : p.sre.question = none) (ht : p.sre.questionTimer = none)
    (hw : p.sre.waitTimer = none) : Ready p :=
  ⟨h.txn, ho, h.treset, h.released, h.window, h.closed, h.image, h.plan, hq, ht, hw⟩

theorem Halting.withdraw (h : Halting p) (hq : p.sre.question = none) (ht : p.sre.questionTimer = none)
    (hw : p.sre.waitTimer = none) : Ready (withdraw p) :=
  ⟨h.txn, operations_withdraw p, h.treset, h.released, h.window, h.closed, h.image, h.plan, hq, ht, hw⟩

/-- A question, its timer and a round wait belong to a run that stands in them. -/
theorem waits_of_stage (h : waitsSound p = true) :
    (p.sre.run.map SearchRun.stage ≠ some .question → p.sre.question = none ∧ p.sre.questionTimer = none) ∧
      (p.sre.run.map SearchRun.stage ≠ some .waiting → p.sre.waitTimer = none) := by
  simp only [waitsSound, Bool.and_eq_true, Bool.or_eq_true, Option.isNone_iff_eq_none, Option.isSome_iff_ne_none,
    decide_eq_true_eq] at h
  obtain ⟨⟨hq, ht⟩, hw⟩ := h
  refine ⟨fun hs => ?_, fun hs => hw.resolve_right hs⟩
  have hq := hq.resolve_right hs
  exact ⟨hq, ht.resolve_right fun hn => hn hq⟩

theorem waits_of_no_run (h : waitsSound p = true) (hr : p.sre.run = none) :
    p.sre.question = none ∧ p.sre.questionTimer = none ∧ p.sre.waitTimer = none := by
  obtain ⟨hq, hw⟩ := waits_of_stage h
  rw [hr] at hq hw
  obtain ⟨hq, ht⟩ := hq nofun
  exact ⟨hq, ht, hw nofun⟩

/-- The part after the owner of the slot has given its operation up. -/
structure GivenUp (p : Part) : Prop where
  ready : Ready p
  run : p.sre.run = none
  check : p.mck.run = none

theorem requesterRuns_eq_false (hs : p.sre.run.map SearchRun.stage ≠ some .probing ∧
      (∀ c, p.sre.run.map SearchRun.stage ≠ some (.block0 c))) (hv : p.sup.verbRun = none) (hl : loaderWorks p = false)
    (rq : Requester) : requesterRuns p rq = false := by
  unfold requesterRuns
  cases rq with
  | search =>
    dsimp only
    split
    · exact absurd ‹_› hs.1
    · exact absurd ‹_› (hs.2 _)
    · rfl
  | loader => exact hl
  | _ =>
    rw [hv]

theorem loaderWorks_eq_false (hs : p.sre.run.map SearchRun.stage ≠ some .loading) (hv : p.sup.verbRun = none) :
    loaderWorks p = false := by
  unfold loaderWorks
  split
  · rw [hv]
    split
    · simpa using fun _ => hs
    · exact Bool.and_false _
    · exact Bool.and_false _
  · rfl

theorem loaderWorks_of_no_plan (hp : p.ldr.plan = none) : loaderWorks p = false := by
  unfold loaderWorks
  rw [hp]
  split
  · contradiction
  · rfl

theorem Halting.withdrawQuestion (h : Halting p) (ho : operations p = []) : Ready (endRun (withdrawQuestion p)) := by
  unfold Machine.withdrawQuestion
  split
  · rename_i hq
    exact ⟨h.txn, ho, h.treset, h.released, h.window, h.closed, h.image, h.plan, hq, rfl, rfl⟩
  · exact ⟨h.txn, ho, h.treset, h.released, h.window, h.closed, h.image, h.plan, rfl, rfl, rfl⟩

theorem Halting.abortRun (h : Halting p) (hs : HoldsSearch p) : GivenUp (abortRun p) := by
  obtain ⟨r, hr⟩ := Option.ne_none_iff_exists'.mp hs.run
  obtain ⟨hquestion, hwait⟩ := waits_of_stage h.waits
  have hstage : p.sre.run.map SearchRun.stage = some r.stage := by rw [hr]; rfl
  rw [hstage] at hquestion hwait
  have hfalse : r.stage ≠ .probing → (∀ c, r.stage ≠ .block0 c) → loaderWorks p = false → operations p = [] :=
    fun h1 h2 hl => h.quiet (requesterRuns_eq_false
      ⟨fun hx => h1 (Option.some.inj (hstage.symm.trans hx)), fun c hx => h2 c (Option.some.inj (hstage.symm.trans hx))⟩
      hs.verbRun hl)
  have hload : r.stage ≠ .loading → loaderWorks p = false := fun hl =>
    loaderWorks_eq_false (fun hx => hl (Option.some.inj (hstage.symm.trans hx))) hs.verbRun
  unfold Machine.abortRun
  rw [hr]
  dsimp only
  cases hst : r.stage with
  | probing =>
    rw [hst] at hquestion hwait
    obtain ⟨hq, ht⟩ := hquestion nofun
    exact ⟨{ h.withdraw hq ht (hwait nofun) with waitTimer := rfl, questionTimer := rfl }, rfl, hs.check⟩
  | block0 c =>
    rw [hst] at hquestion hwait
    obtain ⟨hq, ht⟩ := hquestion nofun
    exact ⟨{ h.withdraw hq ht (hwait nofun) with waitTimer := rfl, questionTimer := rfl }, rfl, hs.check⟩
  | question =>
    rw [hst] at hfalse hload
    have ho := hfalse nofun nofun (hload nofun)
    exact ⟨{ h.withdrawQuestion ho with waitTimer := rfl, questionTimer := rfl }, rfl,
      (congrArg Mck.run (withdrawQuestion_mck p)).trans hs.check⟩
  | loading =>
    rw [hst] at hquestion hwait hfalse
    obtain ⟨hq, ht⟩ := hquestion nofun
    dsimp only
    split
    · exact ⟨{ h.withdraw hq ht (hwait nofun) with waitTimer := rfl, questionTimer := rfl }, rfl, hs.check⟩
    · have ho := hfalse nofun nofun (loaderWorks_of_no_plan ‹_›)
      exact ⟨{ h.ready ho hq ht (hwait nofun) with waitTimer := rfl, questionTimer := rfl }, rfl, hs.check⟩
  | waiting =>
    rw [hst] at hquestion hfalse hload
    obtain ⟨hq, ht⟩ := hquestion nofun
    have ho := hfalse nofun nofun (hload nofun)
    exact ⟨⟨h.txn, ho, h.treset, h.released, h.window, h.closed, h.image, h.plan, hq, rfl, rfl⟩, rfl, hs.check⟩

/-- PEEK and POKE ask no port for anything. -/
theorem HoldsVerb.no_requester {v : VerbRun} (hv : HoldsVerb v p) (hp : v.verb = .peek ∨ v.verb = .poke) (rq : Requester) :
    requesterRuns p rq = false := by
  have hl : loaderWorks p = false := by
    unfold loaderWorks
    rw [hv.run, hv.verbRun]
    cases v with
    | start boot tag port unit raw st => cases boot <;> rcases hp with hp | hp <;> cases hp
    | _ =>
      split
      · split <;> simp
      · rfl
  cases v with
  | start boot tag port unit raw st => cases boot <;> rcases hp with hp | hp <;> cases hp
  | probe | volume => rcases hp with hp | hp <;> cases hp
  | _ => cases rq <;> simp [requesterRuns, hv.run, hv.verbRun, hl]

theorem Halting.abortVerb {v : VerbRun} (h : Halting p) (hv : HoldsVerb v p) : GivenUp (abortOwner p) := by
  obtain ⟨hq, ht, hw⟩ := waits_of_no_run h.waits hv.run
  have hwith := h.withdraw hq ht hw
  unfold abortOwner
  rw [hv.check, hv.run, hv.verbRun]
  cases v with
  | probe tag port unit => exact ⟨{ hwith with }, hv.run, hv.check⟩
  | volume tag port unit c => exact ⟨{ hwith with }, hv.run, hv.check⟩
  | peek tag a n words =>
    have ho : operations p = [] := h.quiet (hv.no_requester (.inl rfl))
    exact ⟨{ h.ready ho hq ht hw with }, hv.run, hv.check⟩
  | poke tag =>
    have ho : operations p = [] := h.quiet (hv.no_requester (.inr rfl))
    exact ⟨h.ready ho hq ht hw, hv.run, hv.check⟩
  | start boot tag port unit raw st =>
    cases st with
    | loading =>
      dsimp only
      split
      · exact ⟨{ hwith with }, hv.run, hv.check⟩
      · have ho : operations p = [] := h.quiet fun rq => by
          cases rq <;> simp [requesterRuns, hv.run, hv.verbRun, loaderWorks_of_no_plan ‹_›]
        exact ⟨h.ready ho hq ht hw, hv.run, hv.check⟩
    | _ => exact ⟨{ hwith with }, hv.run, hv.check⟩

theorem Halting.abortOwner (h : Halting p) : GivenUp (abortOwner p) := by
  obtain hn | hs | ⟨hc, hrun⟩ | ⟨v, hv⟩ := holder_cases h.holder
  · have ho : operations p = [] := h.quiet (requesterRuns_eq_false (by simp [hn.run]) hn.verbRun
      (loaderWorks_eq_false (by simp [hn.run]) hn.verbRun))
    obtain ⟨hq, ht, hw⟩ := waits_of_no_run h.waits hn.run
    unfold Machine.abortOwner
    rw [hn.check, hn.run, hn.verbRun]
    exact ⟨h.ready ho hq ht hw, hn.run, hn.check⟩
  · have ha := h.abortRun hs
    unfold Machine.abortOwner
    rw [hs.check]
    obtain ⟨r, hr⟩ := Option.ne_none_iff_exists'.mp hs.run
    rw [hr]
    exact ha
  · have ho : operations p = [] := h.quiet (requesterRuns_eq_false (by simp [hc.run]) hc.verbRun
      (loaderWorks_eq_false (by simp [hc.run]) hc.verbRun))
    obtain ⟨hq, ht, hw⟩ := waits_of_no_run h.waits hc.run
    have hready := h.ready ho hq ht hw
    obtain ⟨r, hr⟩ := Option.ne_none_iff_exists'.mp hrun
    unfold Machine.abortOwner
    rw [hr]
    dsimp only
    unfold endAbortedCheck
    dsimp only
    split
    · exact ⟨{ hready with }, hc.run, rfl⟩
    · exact ⟨{ hready with }, hc.run, rfl⟩
  · exact h.abortVerb hv

theorem sound_endAbort (h : GivenUp p) : Sound b (endAbort p) := by
  have hi : Sound b (goIdle { p with rlu := { p.rlu with treset := .asserted } }) :=
    sound_goIdle { h.ready with treset := rfl } h.run h.check
  unfold endAbort
  dsimp only
  split
  · exact sound_con hi _
  · exact hi

end Abort

end Sys2Proof.Proofs

/-! PROOFS. The condition on the slot, kept by the events of ports, timers and the memory port. -/

namespace Sys2Proof.Proofs

open Sys2Proof Sys2Proof.Machine

/-! ### What a sound part leaves when nothing is in flight any longer -/

/-- The part with nothing in flight and no abort pending. -/
def bare (p : Part) : Part :=
  { p with
    mmp := { p.mmp with txn := none }
    spc := { p.spc with ports := none }
    sup := { p.sup with abortPending := false } }

theorem slotSound_parts {p : Part} (h : slotSound p = true) :
    holderSound p = true ∧ requestsSound p = true ∧ imageSound p = true ∧ releaseSound p = true ∧ waitsSound p = true := by
  simp only [slotSound, Bool.and_eq_true] at h
  obtain ⟨⟨⟨⟨hh, hr⟩, hi⟩, hl⟩, hw⟩ := h
  exact ⟨hh, hr, hi, hl, hw⟩

section

variable {b : Bool} {p : Part}

/-- Ready but for what is in flight: the target is held and no question or wait is pending. -/
theorem ready_bare (h : slotSound p = true) (hm : ∀ phase, p.sup.mode ≠ .targetRun phase)
    (hq : p.sre.run.map SearchRun.stage ≠ some .question) (hw : p.sre.run.map SearchRun.stage ≠ some .waiting) :
    Ready (bare p) := by
  obtain ⟨-, -, hi, hl, hwaits⟩ := slotSound_parts h
  obtain ⟨ht, hr, him, hwin, ho, -⟩ | ⟨r, -, -, hmode, -⟩ := release_cases hl
  · obtain ⟨hquestion, hwait⟩ := waits_of_stage hwaits
    obtain ⟨hquestion, htimer⟩ := hquestion hq
    exact ⟨rfl, rfl, ht, hr, hwin, ho, him, hi, hquestion, htimer, hwait hw⟩
  · exact absurd hmode (hm _)

theorem searching_bare (h : slotSound p = true) {r : SearchRun} (hr : p.sre.run = some r) (hq : r.stage ≠ .question)
    (hw : r.stage ≠ .waiting) : Searching (bare p) := by
  have hst : p.sre.run.map SearchRun.stage = some r.stage := by rw [hr]; rfl
  obtain hn | hs | ⟨hc, -⟩ | ⟨v, hv⟩ := holder_cases (slotSound_parts h).1
  · cases hr.symm.trans hn.run
  · exact ⟨ready_bare h hs.noRelease (by rw [hst]; simpa using hq) (by rw [hst]; simpa using hw), { hs with }, rfl⟩
  · cases hr.symm.trans hc.run
  · cases hr.symm.trans hv.run

theorem checking_bare (h : slotSound p = true) (hc : p.mck.run ≠ none) : Checking (bare p) := by
  obtain hn | hs | ⟨hk, -⟩ | ⟨v, hv⟩ := holder_cases (slotSound_parts h).1
  · exact absurd hn.check hc
  · exact absurd hs.check hc
  · exact ⟨ready_bare h hk.noRelease (by simp [hk.run]) (by simp [hk.run]), { hk with }, rfl⟩
  · exact absurd hv.check hc

theorem serving_bare (h : slotSound p = true) {v : VerbRun} (hv : p.sup.verbRun = some v) : Serving v (bare p) := by
  obtain hn | hs | ⟨hc, -⟩ | ⟨w, hw⟩ := holder_cases (slotSound_parts h).1
  · cases hv.symm.trans hn.verbRun
  · cases hv.symm.trans hs.verbRun
  · cases hv.symm.trans hc.verbRun
  · cases hv.symm.trans hw.verbRun
    exact ⟨ready_bare h hw.noRelease (by simp [hw.run]) (by simp [hw.run]), { hw with }, rfl⟩

/-- The loader works on a plan whose requester awaits it. -/
theorem loader_bare (h : slotSound p = true) (hl : loaderWorks p = true) :
    ∃ plan c, p.ldr.plan = some plan ∧ plan.cursor = some c ∧ p.ldr.image = .partly ∧ AwaitsLoad plan.requester (bare p) := by
  unfold loaderWorks at hl
  split at hl
  · rename_i plan hi hp
    rw [Bool.and_eq_true, Option.isSome_iff_exists] at hl
    obtain ⟨⟨c, hc⟩, hl⟩ := hl
    refine ⟨plan, c, hp, hc, hi, ?_⟩
    cases hrq : plan.requester with
    | search =>
      rw [hrq] at hl
      have hst : p.sre.run.map SearchRun.stage = some .loading := by simpa using hl
      obtain ⟨r, hr, hload⟩ := Option.map_eq_some_iff.mp hst
      exact ⟨searching_bare h hr (by rw [hload]; nofun) (by rw [hload]; nofun), hst⟩
    | boot =>
      rw [hrq] at hl
      dsimp only at hl
      split at hl
      · exact ⟨_, _, _, _, serving_bare h ‹_›⟩
      · cases hl
    | stage =>
      rw [hrq] at hl
      dsimp only at hl
      split at hl
      · exact ⟨_, _, _, _, serving_bare h ‹_›⟩
      · cases hl
  · cases hl

/-- The requester of a port operation is ready for its result. -/
def Awaits (rq : Requester) (p : Part) : Prop :=
  match rq with
  | .search => Searching p
  | .loader =>
    ∃ plan c, p.ldr.plan = some plan ∧ plan.cursor = some c ∧ p.ldr.image = .partly ∧ AwaitsLoad plan.requester p
  | .manualStart | .probeVerb | .volumeVerb => ∃ v, Serving v p

theorem awaits_bare (h : slotSound p = true) {rq : Requester} (hr : requesterRuns p rq = true) : Awaits rq (bare p) := by
  cases rq with
  | search =>
    unfold requesterRuns at hr
    dsimp only at hr
    split at hr
    · obtain ⟨r, hrun, hst⟩ := Option.map_eq_some_iff.mp ‹_›
      exact searching_bare h hrun (by rw [hst]; nofun) (by rw [hst]; nofun)
    · obtain ⟨r, hrun, hst⟩ := Option.map_eq_some_iff.mp ‹_›
      exact searching_bare h hrun (by rw [hst]; nofun) (by rw [hst]; nofun)
    · cases hr
  | loader =>
    obtain ⟨plan, c, hp, hc, hi, hl⟩ := loader_bare (p := p) h hr
    exact ⟨plan, c, hp, hc, hi, hl⟩
  | manualStart =>
    unfold requesterRuns at hr
    dsimp only at hr
    split at hr
    · exact ⟨_, serving_bare h ‹_›⟩
    · exact ⟨_, serving_bare h ‹_›⟩
    · cases hr
  | probeVerb =>
    unfold requesterRuns at hr
    dsimp only at hr
    split at hr
    · exact ⟨_, serving_bare h ‹_›⟩
    · cases hr
  | volumeVerb =>
    unfold requesterRuns at hr
    dsimp only at hr
    split at hr
    · exact ⟨_, serving_bare h ‹_›⟩
    · cases hr

/-- An update of the ports and the console with nothing left in flight. -/
theorem Awaits.restore {rq : Requester} (h : Awaits rq (bare p)) (ht : p.mmp.txn = none) (ha : p.sup.abortPending = false)
    {x : Spc} {c : Console} (ho : operations { p with spc := x, con := c } = []) : Awaits rq { p with spc := x, con := c } := by
  have hready : Ready (bare p) → Ready { p with spc := x, con := c } := fun h => { h with txn := ht, ops := ho }
  have hsearch : Searching (bare p) → Searching { p with spc := x, con := c } := fun h =>
    { h with txn := ht, ops := ho, abort := ha }
  have hserve : ∀ {v}, Serving v (bare p) → Serving v { p with spc := x, con := c } := fun h =>
    { h with txn := ht, ops := ho, abort := ha }
  cases rq with
  | search => exact hsearch h
  | loader =>
    obtain ⟨plan, cur, hp, hc, hi, hl⟩ := h
    refine ⟨plan, cur, hp, hc, hi, ?_⟩
    cases hrq : plan.requester with
    | search =>
      rw [hrq] at hl
      exact ⟨hsearch hl.1, hl.2⟩
    | boot =>
      rw [hrq] at hl
      obtain ⟨tag, port, unit, raw, hs⟩ := hl
      exact ⟨tag, port, unit, raw, hserve hs⟩
    | stage =>
      rw [hrq] at hl
      obtain ⟨tag, port, unit, raw, hs⟩ := hl
      exact ⟨tag, port, unit, raw, hserve hs⟩
  | manualStart => exact h.imp fun _ => hserve
  | probeVerb => exact h.imp fun _ => hserve
  | volumeVerb => exact h.imp fun _ => hserve

/-! ### Results of port operations -/

theorem sound_deliverLoadEnd {rq : LoadRequester} (tag : Option Tag) (e : LoadEnd) (h : AwaitsLoad rq p)
    (he : e = .loaded → p.ldr.image = .staged) : Sound b (deliverLoadEnd rq tag e p) := by
  cases rq with
  | search => exact sound_searchLoadEnd e h.1 he
  | boot =>
    obtain ⟨_, _, _, _, hs⟩ := h
    exact sound_startLoadEnd true tag e hs he
  | stage =>
    obtain ⟨_, _, _, _, hs⟩ := h
    exact sound_startLoadEnd false tag e hs he

theorem sound_followLoad {plan : LoadPlan} {x : Part × Option LoadEnd} (h : LoadGoes b plan.requester x) :
    Sound b (followLoad plan x) := sound_follow h.1 fun e he => sound_deliverLoadEnd _ e (h.2 e he).1 (h.2 e he).2

theorem sound_deliver (d : Requester × OpResult) (h : Awaits d.1 p) : Sound b (deliver d p) := by
  obtain ⟨rq, r⟩ := d
  cases rq with
  | search => exact sound_searchResult r h
  | loader =>
    obtain ⟨plan, c, hp, hc, hi, hl⟩ := h
    show Sound b (loaderResult r p)
    unfold loaderResult
    rw [hp]
    split
    · rename_i x plan' heq
      cases heq
      rw [hc]
      dsimp only
      split
      · exact hl.standing.sound
      · exact sound_followLoad (loadGoes_loaderRead hl hi _ _ _)
    · exact hl.standing.sound
  | manualStart =>
    obtain ⟨v, hv⟩ := h
    exact sound_verbResult r hv
  | probeVerb =>
    obtain ⟨v, hv⟩ := h
    exact sound_verbResult r hv
  | volumeVerb =>
    obtain ⟨v, hv⟩ := h
    exact sound_verbResult r hv

/-- A port's operation is what is in flight, for what runs. -/
theorem exchange_inFlight (h : slotSound p = true) {port : Port} {e : PortEntry} {f : InFlight}
    (he : entryOf p port = some e) (hf : e.op = some f) :
    p.mmp.txn = none ∧ operations p = [f] ∧ requesterRuns p f.requester = true ∧ p.sup.abortPending = false := by
  have hmem := op_mem_operations he hf
  obtain ⟨-, ho, -⟩ | ⟨g, ht, ho, hr, ha⟩ | ⟨t, -, ho, -⟩ := requests_cases (slotSound_parts h).2.1
  · rw [ho] at hmem
    cases hmem
  · rw [ho] at hmem
    obtain rfl := List.mem_singleton.mp hmem
    exact ⟨ht, ho, hr, ha⟩
  · rw [ho] at hmem
    cases hmem

/-- The operation in flight on a port replaced by another for the same requester. -/
theorem sound_setEntry_op (h : Sound b p) {port : Port} {e e' : PortEntry} {f f' : InFlight} (he : entryOf p port = some e)
    (hf : e.op = some f) (hf' : e'.op = some f') (hrq : f'.requester = f.requester) : Sound b (setEntry port e' p) := by
  obtain ⟨ht, ho, hr, ha⟩ := exchange_inFlight h.1 he hf
  obtain ⟨hh, -, hi, hl, hw⟩ := slotSound_parts h.1
  have hops : operations (setEntry port e' p) = [f'] := by
    rw [operations_setEntry e' he (by rw [ho, hf]; rfl), hf']
    rfl
  have hreq : requestsSound (setEntry port e' p) = true := by
    unfold requestsSound
    rw [hops, setEntry_mmp, ht, setEntry_sup, ha]
    exact (Bool.and_true _).trans (hrq ▸ hr)
  refine ⟨?_, fun _ t hx => by cases ht.symm.trans hx⟩
  simp only [slotSound, Bool.and_eq_true]
  exact ⟨⟨⟨⟨hh, hreq⟩, hi⟩, hl⟩, hw⟩

/-- An update of an entry that leaves its operation. -/
theorem sound_setEntry_same (h : Sound b p) {port : Port} {e e' : PortEntry} (he : entryOf p port = some e)
    (ho : e'.op = e.op) : Sound b (setEntry port e' p) :=
  h.congr ⟨rfl, rfl, rfl, rfl, rfl, rfl, rfl, rfl, rfl, rfl, operations_setEntry_same he ho, rfl, rfl, rfl, rfl, rfl⟩

theorem endOperation_op (e : PortEntry) : (endOperation e).op = none := rfl

/-- The end of an exchange ends its operation, or begins the next exchange of it (R6, R9). -/
theorem finishExchange_cases (port : Port) (e : PortEntry) (f : InFlight) (r : ExchangeResult) (p : Part) :
    (∃ e' c res, e'.op = none ∧ finishExchange port e f r p = ({ setEntry port e' p with con := c }, some (f.requester, res))) ∨
      ∃ e' f', e'.op = some f' ∧ f'.requester = f.requester ∧ finishExchange port e f r p = (setEntry port e' p, none) := by
  unfold finishExchange
  dsimp only
  split
  · split
    · exact .inl ⟨_, _, _, endOperation_op _, rfl⟩
    · exact .inl ⟨_, _, _, endOperation_op _, rfl⟩
  · split
    · split
      · exact .inl ⟨_, _, _, endOperation_op _, rfl⟩
      · exact .inl ⟨_, _, _, endOperation_op _, rfl⟩
    · exact .inr ⟨_, _, rfl, by rfl, rfl⟩

theorem sound_exchangeEnded (h : Sound b p) {port : Port} {e : PortEntry} {f : InFlight} (r : ExchangeResult)
    (he : entryOf p port = some e) (hf : e.op = some f) : Sound b (exchangeEnded port e f r p) := by
  obtain ⟨ht, ho, hr, ha⟩ := exchange_inFlight h.1 he hf
  unfold exchangeEnded
  obtain ⟨e', c, res, ho', hx⟩ | ⟨e', f', hf', hrq, hx⟩ := finishExchange_cases port e f r p
  · rw [hx]
    have hops : operations (setEntry port e' p) = [] := by
      rw [operations_setEntry e' he (by rw [ho, hf]; rfl), ho']
      rfl
    exact sound_deliver _ ((awaits_bare h.1 hr).restore ht ha hops)
  · rw [hx]
    exact sound_setEntry_op h he hf hf' hrq

theorem sound_answerExchange (h : Sound b p) (kind : PortKind) (result : PortOp → Option ExchangeResult) (port : Port) :
    Sound b (answerExchange kind result port p) := by
  unfold answerExchange
  split
  · exact h
  · split
    · exact h
    · split
      · exact h
      · split
        · exact h
        · exact sound_exchangeEnded h _ ‹_› ‹_›

theorem sound_linkPiece (h : Sound b p) (port : Port) (bytes : List Byte) : Sound b (linkPiece port p bytes) := by
  unfold linkPiece
  split
  · exact h
  · rename_i e he
    split
    · exact h
    · rename_i f hf
      split
      · exact h
      · split
        · exact sound_setEntry_op (e' := { e with op := some { f with received := f.received ++ bytes } }) h he hf rfl rfl
        · exact sound_exchangeEnded h _ he hf
        · exact sound_exchangeEnded h _ he hf

theorem sound_linkBytes (h : Sound b p) (port : Port) (bytes : List Byte) : Sound b (linkBytes port bytes p) := by
  have hp : ∀ (pieces : List (List Byte)) {p : Part}, Sound b p → Sound b (pieces.foldl (linkPiece port) p) := by
    intro pieces
    induction pieces with
    | nil => exact id
    | cons x xs ih => exact fun hp => ih (sound_linkPiece hp port x)
  exact hp _ h

theorem sound_exchangeExpiry (h : Sound b p) (port : Port) : Sound b (exchangeExpiry port p) := by
  unfold exchangeExpiry
  split
  · exact h
  · split
    · exact h
    · split
      · exact sound_exchangeEnded h _ ‹_› ‹_›
      · exact h

theorem sound_linkSent (h : Sound b p) (port : Port) : Sound b (linkSent port p) := by
  unfold linkSent
  split
  · exact h
  · rename_i e he
    split
    · exact h
    · rename_i f hf
      split
      · exact sound_setEntry_op (e' := { e with op := some { f with timer := some e.kind.timeoutMs } }) h he hf rfl rfl
      · exact h

theorem sound_senseLevel (h : Sound b p) (port : Port) (card : Bool) : Sound b (senseLevel port card p) := by
  have hs : Sound b { p with spc := { p.spc with sense := p.spc.sense.set port card } } :=
    h.congr ⟨rfl, rfl, rfl, rfl, rfl, rfl, rfl, rfl, rfl, rfl, rfl, rfl, rfl, rfl, rfl, rfl⟩
  unfold senseLevel
  dsimp only
  split
  · exact hs
  · rename_i e he
    split
    · exact sound_setEntry_same hs he (e' := { e with hold := if e.cardPresent = card then none else some card }) rfl
    · exact hs

/-! ### The question and the round wait -/

/-- Nothing is in flight while the run stands in a question or a round wait. -/
theorem quiet_of_stage (h : slotSound p = true) {r : SearchRun} (hr : p.sre.run = some r)
    (hs : r.stage = .question ∨ r.stage = .waiting) :
    HoldsSearch p ∧ p.mmp.txn = none ∧ operations p = [] ∧ p.sup.abortPending = false := by
  obtain ⟨hh, hreq, -⟩ := slotSound_parts h
  have hold : HoldsSearch p := by
    obtain hn | hs | ⟨hc, -⟩ | ⟨v, hv⟩ := holder_cases hh
    · cases hr.symm.trans hn.run
    · exact hs
    · cases hr.symm.trans hc.run
    · cases hr.symm.trans hv.run
  have hst : p.sre.run.map SearchRun.stage = some r.stage := by rw [hr]; rfl
  have hl : loaderWorks p = false := loaderWorks_eq_false (by rw [hst]; rcases hs with hs | hs <;> rw [hs] <;> nofun) hold.verbRun
  have hno := requesterRuns_eq_false (p := p)
    ⟨by rw [hst]; rcases hs with hs | hs <;> rw [hs] <;> nofun,
      fun c => by rw [hst]; rcases hs with hs | hs <;> rw [hs] <;> nofun⟩ hold.verbRun hl
  refine ⟨hold, ?_⟩
  obtain hq | ⟨f, -, -, hf, -⟩ | ⟨t, -, -, ht⟩ := requests_cases hreq
  · exact hq
  · cases (hno f.requester).symm.trans hf
  · unfold txnRequesterRuns at ht
    rw [hold.check, hold.verbRun, hl] at ht
    cases hrq : t.requester <;> rw [hrq] at ht <;> cases ht

/-- The run that a question belongs to. -/
theorem run_of_question (h : slotSound p = true) (hq : p.sre.question ≠ none) :
    ∃ r, p.sre.run = some r ∧ r.stage = .question := by
  have hs : p.sre.run.map SearchRun.stage = some .question := by
    refine Classical.byContradiction fun hs => ?_
    exact hq ((waits_of_stage (slotSound_parts h).2.2.2.2).1 hs).1
  exact Option.map_eq_some_iff.mp hs

theorem held_of_mode (h : slotSound p = true) (hm : ∀ phase, p.sup.mode ≠ .targetRun phase) :
    p.rlu.treset = .asserted ∧ p.rlu.released = none ∧ p.ldr.image ≠ .released ∧ p.rlu.windowTimer = none ∧
      p.tgt.isOpen = false := by
  obtain ⟨ht, hr, him, hwin, ho, -⟩ | ⟨r, -, -, hmode, -⟩ := release_cases (slotSound_parts h).2.2.2.1
  · exact ⟨ht, hr, him, hwin, ho⟩
  · exact absurd hmode (hm _)

/-- The search goes on once its question has ended (R52). -/
theorem searching_endQuestion (h : slotSound p = true) (hq : p.sre.question ≠ none) : Searching (endQuestion p) := by
  obtain ⟨r, hr, hst⟩ := run_of_question h hq
  obtain ⟨hold, ht, ho, ha⟩ := quiet_of_stage h hr (.inl hst)
  obtain ⟨htr, hrel, him, hwin, hopen⟩ := held_of_mode h hold.noRelease
  have hw := (waits_of_stage (slotSound_parts h).2.2.2.2).2 (by rw [hr]; simp [hst])
  refine ⟨⟨ht, ho, htr, hrel, hwin, hopen, him, (slotSound_parts h).2.2.1, rfl, rfl, hw⟩, { hold with run := ?_ }, ha⟩
  simp [endQuestion, setSre, hr]

theorem sound_questionOutcome (h : slotSound p = true) (hq : p.sre.question ≠ none) (o : AttemptOutcome) :
    Sound b (questionOutcome o p) := sound_endAttempt _ _ _ ((searching_endQuestion h hq).setMode nofun)

theorem sound_questionYes (h : slotSound p = true) (hq : p.sre.question ≠ none) : Sound b (questionYes p) := by
  have he := searching_endQuestion h hq
  unfold questionYes
  split
  · exact sound_searchClassified _ _ _ (he.setMode nofun)
  · exact he.sound

theorem sound_questionExpiry (h : Sound b p) : Sound b (questionExpiry p) := by
  unfold questionExpiry
  split
  · rename_i ht
    refine sound_questionOutcome h.1 (fun hq => ?_) _
    have hw := (slotSound_parts h.1).2.2.2.2
    simp [waitsSound, hq, Option.isSome_iff_ne_none.mp ht] at hw
  · exact h

/-- The next round begins (R50). -/
theorem sound_endRoundWait (h : slotSound p = true) (hs : p.sre.run.map SearchRun.stage = some .waiting) :
    Sound b (endRoundWait p) := by
  obtain ⟨r, hr, hst⟩ := Option.map_eq_some_iff.mp hs
  obtain ⟨hold, ht, ho, ha⟩ := quiet_of_stage h hr (.inr hst)
  obtain ⟨htr, hrel, him, hwin, hopen⟩ := held_of_mode h hold.noRelease
  obtain ⟨hq, hqt⟩ := (waits_of_stage (slotSound_parts h).2.2.2.2).1 (by rw [hs]; nofun)
  have hsearch : Searching { p with sre := { p.sre with waitTimer := none } } :=
    ⟨⟨ht, ho, htr, hrel, hwin, hopen, him, (slotSound_parts h).2.2.1, hq, hqt, rfl⟩, { hold with }, ha⟩
  have hround : Sound b (beginRound (min 0xFFFF (r.round + 1)) { p with sre := { p.sre with waitTimer := none } }) :=
    sound_beginRound _ hsearch
  rw [endRoundWait, hr]
  exact hround

theorem sound_waitExpiry (h : Sound b p) : Sound b (waitExpiry p) := by
  unfold waitExpiry
  split
  · rename_i ht
    refine sound_endRoundWait h.1 ?_
    refine Classical.byContradiction fun hs => ?_
    rw [(waits_of_stage (slotSound_parts h.1).2.2.2.2).2 hs] at ht
    cases ht
  · exact h

theorem sound_insertTold (h : Sound b p) : Sound b (insertTold p) := by
  unfold insertTold
  split
  · exact sound_endRoundWait h.1 ‹_›
  · exact h

theorem sound_cardIn (h : Sound b p) (port : Port) : Sound b (cardIn port p) := by
  unfold cardIn
  split
  · exact h
  · rename_i e he
    split
    · exact sound_insertTold (sound_con (sound_setEntry_same h he (e' := cardEvent true e) rfl) _)
    · exact h

theorem sound_cardOut (h : Sound b p) (port : Port) : Sound b (cardOut port p) := by
  unfold cardOut
  split
  · exact h
  · rename_i e he
    split
    · dsimp only
      split
      · rename_i ho
        have hop : (endByRemoval (cardEvent false e)).op = e.op := by
          have hc : (cardEvent false e).op = none := ho
          rw [endByRemoval, hc, ho]
          exact hc
        exact sound_con (sound_setEntry_same h he hop) _
      · rename_i f hf
        obtain ⟨ht, ho, hr, ha⟩ := exchange_inFlight h.1 he hf
        have hop : (endByRemoval (cardEvent false e)).op = none := by
          have hc : (cardEvent false e).op = some f := hf
          rw [endByRemoval, hc]
        have hops : operations (setEntry port (endByRemoval (cardEvent false e)) p) = [] := by
          rw [operations_setEntry _ he (by rw [ho, hf]; rfl), hop]
          rfl
        have hrq : (removalResult f).1 = f.requester := by
          unfold removalResult
          split <;> rfl
        exact sound_deliver _ (hrq ▸ (awaits_bare h.1 hr).restore ht ha hops)
    · exact h

/-! ### Outcomes of memory transactions -/

/-- What holds of the part as a memory transaction ends. -/
theorem txn_inFlight (h : slotSound p = true) {t : Transaction} (ht : p.mmp.txn = some t) :
    operations p = [] ∧ txnRequesterRuns p t.requester = true := by
  obtain ⟨hn, -⟩ | ⟨f, hn, -⟩ | ⟨x, hx, ho, hr⟩ := requests_cases (slotSound_parts h).2.1
  · cases ht.symm.trans hn
  · cases ht.symm.trans hn
  · cases ht.symm.trans hx
    exact ⟨ho, hr⟩

theorem halting_endTxn (h : slotSound p = true) (ho : operations p = []) (hm : ∀ phase, p.sup.mode ≠ .targetRun phase) :
    Halting (endTxn p) := by
  obtain ⟨hh, -, hi, -, hw⟩ := slotSound_parts h
  obtain ⟨ht, hr, him, hwin, hopen⟩ := held_of_mode h hm
  exact ⟨rfl, .inl ho, ht, hr, hwin, hopen, him, hi, hw, hh⟩

theorem Checking.noTarget {q : Part} (h : Checking (bare q)) : ∀ phase, q.sup.mode ≠ .targetRun phase := h.noRelease

theorem sound_checkerOutcome (h : slotSound p = true) (hops : operations p = []) (hc : p.mck.run ≠ none) (o : TxnOutcome) :
    Sound b (checkerOutcome o (endTxn p)) := by
  have hk := checking_bare h hc
  unfold checkerOutcome
  split
  · exact absurd ‹_› hc
  · rename_i r _
    split
    · refine sound_endAbort (Halting.abortOwner ?_)
      have hh := halting_endTxn h hops hk.noTarget
      unfold checkAbortOutcome
      split
      · exact { hh with holder := HoldsCheck.sound { hk.toHoldsCheck with } nofun }
      · exact hh
    · rename_i ha
      have hk : Checking (endTxn p) := { hk with ops := hops, abort := by simpa using ha }
      exact sound_followCheck (checkGoes_checkOutcome o r hk)

theorem AwaitsLoad.restore {rq : LoadRequester} (h : AwaitsLoad rq (bare p)) (hops : operations p = [])
    (ha : p.sup.abortPending = false) : AwaitsLoad rq (endTxn p) := by
  cases rq with
  | search => exact ⟨{ h.1 with ops := hops, abort := ha }, h.2⟩
  | boot =>
    obtain ⟨tag, port, unit, raw, hs⟩ := h
    exact ⟨tag, port, unit, raw, { hs with ops := hops, abort := ha }⟩
  | stage =>
    obtain ⟨tag, port, unit, raw, hs⟩ := h
    exact ⟨tag, port, unit, raw, { hs with ops := hops, abort := ha }⟩

theorem sound_loadOutcome (h : slotSound p = true) (hops : operations p = []) (hl : loaderWorks p = true) (o : TxnOutcome)
    (a : Nat) : Sound b (loadOutcome o a (endTxn p)) := by
  obtain ⟨plan, c, hp, hc, hi, hw⟩ := loader_bare h hl
  unfold loadOutcome
  split
  · refine sound_endAbort (Halting.abortOwner ?_)
    have hh := halting_endTxn h hops hw.standing.noRelease
    unfold loaderAbortOutcome
    split
    · exact hh
    · unfold defectiveAt
      split
      · exact { hh with }
      · exact hh
  · rename_i ha
    rw [endTxn_ldr, hp]
    dsimp only
    rw [hc]
    exact sound_followLoad (loadGoes_loaderOutcome (hw.restore hops (by simpa using ha)) hi _ _)

theorem sound_peekOutcome (h : slotSound p = true) (hops : operations p = [])
    (hv : txnRequesterRuns p .peek = true) (o : TxnOutcome) : Sound b (peekOutcome o (endTxn p)) := by
  unfold txnRequesterRuns at hv
  dsimp only at hv
  split at hv
  · rename_i tag a left words hr
    have hs := serving_bare h hr
    unfold peekOutcome
    rw [endTxn_sup, hr]
    dsimp only
    split
    · refine sound_endAbort (Halting.abortOwner ?_)
      have hh := halting_endTxn h hops hs.noRelease
      exact { hh with
        ops := .inl hops
        holder := HoldsVerb.sound (v := .peek tag a left (words ++ [(a, peekWordOf o)]))
          { hs.toHoldsVerb with slot := hs.slot, mode := hs.mode, verbRun := rfl } }
    · rename_i ha
      exact sound_peekFrom _ _ (v := .peek tag a left words) { hs with ops := hops, abort := by simpa using ha } rfl
  · cases hv

theorem sound_pokeOutcome (h : slotSound p = true) (hops : operations p = []) (hv : txnRequesterRuns p .poke = true)
    (o : TxnOutcome) : Sound b (pokeOutcome o (endTxn p)) := by
  unfold txnRequesterRuns at hv
  dsimp only at hv
  split at hv
  · rename_i tag hr
    have hs := serving_bare h hr
    have hready : Ready (endTxn p) := { hs.toReady with ops := hops }
    unfold pokeOutcome
    rw [endTxn_sup, hr]
    cases o <;> exact sound_goIdle { hready with } hs.run hs.check
  · cases hv

theorem sound_txnEnded (h : Sound b p) {t : Transaction} (ht : p.mmp.txn = some t) (o : TxnOutcome) :
    Sound b (txnEnded t o p) := by
  obtain ⟨hops, hr⟩ := txn_inFlight h.1 ht
  unfold txnEnded
  dsimp only
  split
  · rename_i hrq
    rw [hrq] at hr
    exact sound_checkerOutcome h.1 hops (Option.isSome_iff_ne_none.mp hr) o
  · rename_i hrq
    rw [hrq] at hr
    exact sound_loadOutcome h.1 hops hr o _
  · rename_i hrq
    rw [hrq] at hr
    exact sound_peekOutcome h.1 hops hr o
  · rename_i hrq
    rw [hrq] at hr
    exact sound_pokeOutcome h.1 hops hr o

theorem sound_busResponse (h : Sound b p) (mrdy merr : Bool) (word : Word32) : Sound b (busResponse mrdy merr word p) := by
  unfold busResponse
  split
  · exact h
  · split
    · exact h
    · exact sound_txnEnded h ‹_› _

theorem sound_responseExpiry (h : Sound b p) : Sound b (responseExpiry p) := by
  unfold responseExpiry
  split
  · exact h
  · exact sound_txnEnded h ‹_› _

end

end Sys2Proof.Proofs

/-! PROOFS. The condition on the slot, kept by the resets, the end of INIT, aborts, the end of a window, and the console's verbs. -/

namespace Sys2Proof.Proofs

open Sys2Proof Sys2Proof.Machine

section

variable {b : Bool} {p : Part}

/-! ### What holds while the slot is empty -/

/-- With nothing running, nothing is in flight. -/
theorem HoldsNone.quiet (hn : HoldsNone p) (h : requestsSound p = true) :
    p.mmp.txn = none ∧ operations p = [] ∧ p.sup.abortPending = false := by
  have hl : loaderWorks p = false := loaderWorks_eq_false (by simp [hn.run]) hn.verbRun
  have hno := requesterRuns_eq_false (by simp [hn.run]) hn.verbRun hl
  obtain hq | ⟨f, -, -, hf, -⟩ | ⟨t, -, -, ht⟩ := requests_cases h
  · exact hq
  · cases (hno f.requester).symm.trans hf
  · unfold txnRequesterRuns at ht
    rw [hn.check, hn.verbRun, hl] at ht
    cases hrq : t.requester <;> rw [hrq] at ht <;> cases ht

theorem holdsNone_of_slot (h : slotSound p = true) (hs : p.sup.slot = none) : HoldsNone p := by
  obtain hn | hx | ⟨hc, -⟩ | ⟨v, hv⟩ := holder_cases (slotSound_parts h).1
  · exact hn
  · cases hs.symm.trans hx.slot
  · obtain ⟨hx, -⟩ | ⟨tag, hx, -⟩ := hc.slot <;> cases hs.symm.trans hx
  · obtain ⟨tag, hx⟩ := hv.slot
    cases hs.symm.trans hx

/-- A part whose slot is empty, with nothing in flight and the target held. -/
structure Vacant (p : Part) : Prop extends Ready p, HoldsNone p where
  abort : p.sup.abortPending = false

theorem vacant_of_slot (h : slotSound p = true) (hs : p.sup.slot = none) (hm : ∀ phase, p.sup.mode ≠ .targetRun phase) :
    Vacant p := by
  have hn := holdsNone_of_slot h hs
  obtain ⟨ht, ho, ha⟩ := hn.quiet (slotSound_parts h).2.1
  obtain ⟨htr, hrel, him, hwin, hopen⟩ := held_of_mode h hm
  obtain ⟨hq, hqt, hw⟩ := waits_of_no_run (slotSound_parts h).2.2.2.2 hn.run
  exact ⟨⟨ht, ho, htr, hrel, hwin, hopen, him, (slotSound_parts h).2.2.1, hq, hqt, hw⟩, hn, ha⟩

theorem Vacant.sound (h : Vacant p) (hm : ∀ phase, p.sup.mode ≠ .targetRun phase) : Sound b p :=
  h.toReady.sound h.toHoldsNone.sound hm h.abort

/-- The slot is empty unless the mode is AUTO or MANUAL BUSY. -/
theorem slot_of_mode (h : slotSound p = true) (ha : ∀ phase, p.sup.mode ≠ .auto phase)
    (hb : ∀ v, p.sup.mode ≠ .manual (some v)) : p.sup.slot = none := by
  obtain hn | hx | ⟨hc, -⟩ | ⟨v, hv⟩ := holder_cases (slotSound_parts h).1
  · exact hn.slot
  · obtain ⟨phase, hm, -⟩ := hx.mode
    exact absurd hm (ha _)
  · obtain ⟨-, hm⟩ | ⟨tag, -, hm⟩ := hc.slot
    · exact absurd hm (ha _)
    · exact absurd hm (hb _)
  · exact absurd hv.mode (hb _)

theorem vacant_of_init (h : slotSound p = true) (hm : p.sup.mode = .init) : Vacant p :=
  vacant_of_slot h (slot_of_mode h (by rw [hm]; nofun) (by rw [hm]; nofun)) (by rw [hm]; nofun)

/-! ### A target that runs -/

/-- The target runs with a released candidate, and nothing else does (R117). -/
structure TargetRuns (r : Released) (p : Part) : Prop extends HoldsNone p where
  txn : p.mmp.txn = none
  ops : operations p = []
  abort : p.sup.abortPending = false
  treset : p.rlu.treset = .freed
  released : p.rlu.released = some r
  phase : p.sup.mode = .targetRun r.phase
  image : p.ldr.image = .released
  plan : imageSound p = true
  isOpen : p.tgt.isOpen = true
  window : p.rlu.windowTimer = none ∨ r.phase = .confirmWait
  question : p.sre.question = none
  questionTimer : p.sre.questionTimer = none
  waitTimer : p.sre.waitTimer = none

theorem targetRuns_of_released (h : slotSound p = true) {r : Released} (hr : p.rlu.released = some r) : TargetRuns r p := by
  obtain ⟨-, hreq, hi, hl, hw⟩ := slotSound_parts h
  obtain ⟨-, hx, -⟩ | ⟨x, htr, hx, hm, him, ho⟩ := release_cases hl
  · cases hr.symm.trans hx
  cases hr.symm.trans hx
  have hn := holdsNone_of_slot h (slot_of_mode h (by rw [hm]; nofun) (by rw [hm]; nofun))
  obtain ⟨ht, hops, ha⟩ := hn.quiet hreq
  obtain ⟨hq, hqt, hwt⟩ := waits_of_no_run hw hn.run
  refine ⟨hn, ht, hops, ha, htr, hr, hm, him, hi, ho, ?_, hq, hqt, hwt⟩
  simpa [releaseSound, htr, hr, hm, him, ho] using hl

theorem TargetRuns.sound {r : Released} (h : TargetRuns r p) : Sound b p := by
  have hl : releaseSound p = true := by
    unfold releaseSound
    rw [h.treset, h.released]
    simpa [h.phase, h.image, h.isOpen] using h.window
  have hw : waitsSound p = true := by simp [waitsSound, h.question, h.questionTimer, h.waitTimer]
  refine ⟨?_, fun _ t ht => by cases h.txn.symm.trans ht⟩
  simp only [slotSound, Bool.and_eq_true]
  exact ⟨⟨⟨⟨h.toHoldsNone.sound, requestsSound_of_quiet h.txn h.ops h.abort⟩, h.plan⟩, hl⟩, hw⟩

/-- The part that a hold of the released candidate leaves, before its mode changes (R125, R128). -/
theorem TargetRuns.hold {r : Released} (h : TargetRuns r p) :
    Ready (dropReleased (holdTarget p)) ∧ (holdTarget p).sre.run = none ∧ (holdTarget p).mck.run = none ∧
      (holdTarget p).sup.abortPending = false := by
  have he : holdTarget p =
      { p with
        tgt := { closedTarget with rate := p.tgt.rate }
        rlu := { p.rlu with treset := .asserted, windowTimer := none }
        ldr := { p.ldr with image := .nothing, plan := none } } := by
    unfold holdTarget imageNoneAtHold closeTarget
    dsimp only
    rw [h.image]
    rfl
  rw [he]
  exact ⟨⟨h.txn, h.ops, rfl, rfl, rfl, rfl, nofun, rfl, h.question, h.questionTimer, h.waitTimer⟩, h.run, h.check, h.abort⟩

theorem sound_failWindow (h : Sound b p) (o : AttemptOutcome) : Sound b (failWindow o p) := by
  unfold failWindow
  split
  · exact h
  · rename_i r hr
    have ht := targetRuns_of_released h.1 hr
    obtain ⟨hready, hrun, hcheck, habort⟩ := ht.hold
    have hq : Ready (dropReleased (raise 712 r.tag (r.key.fields ++ [.word o.name])
        (addSpent r.key (appendRecord r.tag r.fields o none (some r.key.imageId) (holdTarget p))))) := { hready with }
    dsimp only
    split
    · exact sound_beginRun _ _ hq hcheck habort
    · exact sound_goIdle hq hrun hcheck

theorem sound_windowExpiry (h : Sound b p) : Sound b (windowExpiry p) := by
  unfold windowExpiry
  split
  · exact sound_failWindow h _
  · exact h

/-! ### Resets and INIT (R138 to R140) -/

theorem sound_takePowerReset (cause : ResetCause) (p : Part) : Sound b (takePowerReset cause p) :=
  Vacant.sound ⟨⟨rfl, rfl, rfl, rfl, rfl, rfl, nofun, rfl, rfl, rfl, rfl⟩, ⟨rfl, ⟨nofun, nofun⟩, rfl, rfl, rfl⟩, rfl⟩ nofun

theorem sound_takeRestart (p : Part) : Sound b (takeRestart p) :=
  Vacant.sound ⟨⟨rfl, operations_fresh rfl, rfl, rfl, rfl, rfl, nofun, rfl, rfl, rfl, rfl⟩,
    ⟨rfl, ⟨nofun, nofun⟩, rfl, rfl, rfl⟩, rfl⟩ nofun

theorem sound_endInit (h : Vacant p) : Sound b (endInit p) := by
  have hq : Vacant (raise 800 none [.word p.sup.cause.name, .word p.sst.source.name] p) := { h with }
  unfold endInit
  generalize raise 800 none [.word p.sup.cause.name, .word p.sst.source.name] p = q at hq
  unfold chooseMode
  dsimp only
  split
  · exact sound_goIdle hq.toReady hq.run hq.check
  · split
    · exact sound_beginCheck _ _ _ _ _ _ _
        { hq.toReady with slot := .inl ⟨rfl, rfl⟩, run := hq.run, verbRun := hq.verbRun, abort := hq.abort }
    · exact sound_beginRun _ _ hq.toReady hq.check hq.abort

theorem sound_initExpiry (h : Sound b p) : Sound b (initExpiry p) := by
  unfold initExpiry
  split
  · rename_i hm
    have hv := vacant_of_init h.1 hm.1
    dsimp only
    split
    · exact sound_endInit { hv with }
    · exact Vacant.sound (p := { p with sup := { p.sup with initTimer := false } }) { hv with }
        (by intro phase hx; cases hm.1.symm.trans hx)
  · exact h

theorem sound_settle (h : Sound b p) : Sound b (settle p) := by
  unfold settle
  split
  · rename_i hm
    have hv := vacant_of_init h.1 hm.1
    dsimp only
    split
    · refine Vacant.sound { hv with ops := operations_fresh rfl } ?_
      intro phase hx
      cases hm.1.symm.trans hx
    · exact sound_endInit { hv with ops := operations_fresh rfl }
  · exact h

/-! ### Break and ABORT (R145 to R149) -/

theorem sound_abortPending (h : Sound b p) (ht : p.mmp.txn ≠ none) :
    Sound b { p with sup := { p.sup with abortPending := true } } := by
  obtain ⟨hh, hr, hi, hl, hw⟩ := slotSound_parts h.1
  obtain ⟨hn, -⟩ | ⟨f, hn, -⟩ | ⟨t, hx, ho, hq⟩ := requests_cases hr
  · exact absurd hn ht
  · exact absurd hn ht
  have hreq : requestsSound { p with sup := { p.sup with abortPending := true } } = true := by
    have hops : operations { p with sup := { p.sup with abortPending := true } } = [] := ho
    unfold requestsSound
    rw [hops]
    dsimp only
    rw [hx]
    exact hq
  refine ⟨?_, h.2⟩
  simp only [slotSound, Bool.and_eq_true]
  exact ⟨⟨⟨⟨hh, hreq⟩, hi⟩, hl⟩, hw⟩

theorem sound_abortOperation (h : Sound b p) (hm : ∀ phase, p.sup.mode ≠ .targetRun phase) : Sound b (abortOperation p) := by
  unfold abortOperation
  split
  · rename_i t ht
    exact sound_abortPending h (by rw [ht]; nofun)
  · rename_i ht
    obtain ⟨hh, hr, hi, -, hw⟩ := slotSound_parts h.1
    obtain ⟨htr, hrel, him, hwin, hopen⟩ := held_of_mode h.1 hm
    refine sound_endAbort (Halting.abortOwner ⟨ht, ?_, htr, hrel, hwin, hopen, him, hi, hw, hh⟩)
    obtain ⟨-, ho, -⟩ | ⟨f, -, ho, hf, -⟩ | ⟨t, hx, -⟩ := requests_cases hr
    · exact .inl ho
    · exact .inr ⟨f, ho, hf⟩
    · cases ht.symm.trans hx

theorem sound_takeBreak (h : Sound b p) : Sound b (takeBreak p) := by
  unfold takeBreak
  split
  · exact h
  · split
    · exact h.congr ⟨rfl, rfl, rfl, rfl, rfl, rfl, rfl, rfl, rfl, rfl, rfl, rfl, rfl, rfl, rfl, rfl⟩
    · rename_i hm
      exact sound_abortOperation h (by rw [hm]; nofun)
    · rename_i hm
      exact sound_abortOperation h (by rw [hm]; nofun)
    · exact h

end

end Sys2Proof.Proofs

/-! PROOFS. The condition on the slot, kept by the requests of the console and of the target line. -/

namespace Sys2Proof.Proofs

open Sys2Proof Sys2Proof.Machine

section

variable {b : Bool} {p : Part}

/-! ### Verbs that leave the slot -/

theorem sound_listVerb (h : Sound b p) (lines : Part → List (List Field)) (tag : Option Tag) (args : List Arg) :
    Sound b (listVerb lines tag args p) := by
  unfold listVerb
  split
  · exact sound_con h _
  · exact sound_con h _

/-- An update of the settings store that leaves the working map. -/
theorem sound_sst (h : Sound b p) {x : Sst} (hm : x.settings.map = p.sst.settings.map) : Sound b { p with sst := x } :=
  h.congr ⟨rfl, rfl, rfl, rfl, rfl, rfl, rfl, rfl, rfl, rfl, rfl, rfl, rfl, rfl, rfl, hm⟩

theorem sound_restartVerb (h : Sound b p) (tag : Option Tag) (args : List Arg) : Sound b (restartVerb tag args p) := by
  unfold restartVerb
  split
  · exact sound_con (p := { p with sup := { p.sup with restartPending := true } })
      (h.congr ⟨rfl, rfl, rfl, rfl, rfl, rfl, rfl, rfl, rfl, rfl, rfl, rfl, rfl, rfl, rfl, rfl⟩) _
  · exact sound_con h _

theorem sound_getVerb (h : Sound b p) (tag : Option Tag) (args : List Arg) : Sound b (getVerb tag args p) := by
  unfold getVerb
  split
  · split
    · exact sound_con h _
    · exact sound_con h _
  · exact sound_con h _

/-- A change of the boot order list, with its reply. -/
theorem sound_setOrder (h : Sound b p) (l : List BootEntry) (tag : Option Tag) : Sound b (replyOk tag (setOrder l p)) :=
  sound_con (p := setOrder l p) (sound_sst h rfl) _

theorem sound_orderPutVerb (h : Sound b p) (tag : Option Tag) (args : List Arg) : Sound b (orderPutVerb tag args p) := by
  unfold orderPutVerb
  split
  · split
    · split
      · exact sound_con h _
      · dsimp only
        split
        · exact sound_con h _
        · split
          · exact sound_con h _
          · split
            · exact sound_setOrder h _ _
            · split
              · exact sound_con h _
              · exact sound_setOrder h _ _
    · exact sound_con h _
  · exact sound_con h _

theorem sound_orderDelVerb (h : Sound b p) (tag : Option Tag) (args : List Arg) : Sound b (orderDelVerb tag args p) := by
  unfold orderDelVerb
  split
  · split
    · exact sound_con h _
    · split
      · exact sound_con h _
      · exact sound_setOrder h _ _
  · exact sound_con h _

theorem sound_orderMoveVerb (h : Sound b p) (tag : Option Tag) (args : List Arg) : Sound b (orderMoveVerb tag args p) := by
  unfold orderMoveVerb
  split
  · split
    · exact sound_con h _
    · split
      · exact sound_con h _
      · exact sound_setOrder h _ _
  · exact sound_con h _

theorem sound_saveVerb (h : Sound b p) (tag : Option Tag) (args : List Arg) : Sound b (saveVerb tag args p) := by
  have hb : Sound b (beginSave tag p) := by
    unfold beginSave setArea setCopyRecord
    dsimp only
    split
    · exact sound_sst h rfl
    · exact sound_sst h rfl
  unfold saveVerb
  split
  · split
    · exact sound_con h _
    · split
      · exact sound_con h _
      · exact sound_con hb _
  · exact sound_con h _

theorem setArea_settings (t : Sst) (area : Area) (c : Option StoredCopy) : (setArea t area c).settings = t.settings := by
  cases area <;> rfl

theorem setCopyRecord_settings (t : Sst) (area : Area) (g : Option Nat) : (setCopyRecord t area g).settings = t.settings := by
  cases area <;> rfl

theorem sound_writeEnded (h : Sound b p) (e : WriteEnd) : Sound b (writeEnded e p) := by
  unfold writeEnded
  split
  · exact h
  · rename_i s _
    split
    · refine sound_con (p := { p with sst := { setCopyRecord (setArea p.sst s.area _) s.area _ with saving := none } })
        (sound_sst h ?_) _
      exact congrArg Settings.map ((setCopyRecord_settings _ _ _).trans (setArea_settings _ _ _))
    · exact sound_con (p := { p with sst := { p.sst with saving := none } }) (sound_sst h rfl) _
    · exact sound_con (p := { p with sst := { p.sst with saving := none } }) (sound_sst h rfl) _

theorem sound_saveExpiry (h : Sound b p) : Sound b (saveExpiry p) := by
  unfold saveExpiry
  split
  · exact h
  · exact sound_con (p := { p with sst := { p.sst with saving := none } }) (sound_sst h rfl) _

theorem sound_answerVerb (h : Sound b p) (tag : Option Tag) (args : List Arg) : Sound b (answerVerb tag args p) := by
  unfold answerVerb
  split
  · rename_i q w
    split
    · exact sound_con h _
    · split
      · exact sound_con h _
      · split
        · exact sound_con h _
        · rename_i hq
          have hsome : p.sre.question ≠ none := fun hn => hq (by rw [hn]; nofun)
          have hr : slotSound (replyRecord (accepted 412 tag [.num q, .word (yesNo ‹Bool›)]) p) = true :=
            (sound_con (b := false) ⟨h.1, nofun⟩ _).1
          dsimp only
          split
          · exact sound_questionYes hr hsome
          · exact sound_questionOutcome hr hsome _
  · exact sound_con h _

/-! ### Verbs that take the slot (R137, R142) -/

theorem vacant_of_free (h : slotSound p = true) (hs : ¬ slotHeld p = true) (hm : ∀ phase, p.sup.mode ≠ .targetRun phase) :
    Vacant p := vacant_of_slot h (by simpa [slotHeld] using hs) hm

/-- A verb other than CHECK takes the empty slot. -/
theorem Vacant.serving (h : Vacant p) (v : VerbRun) (tag : Option Tag) : Serving v (takeSlot v.verb tag (some v) p) :=
  { h.toReady with slot := ⟨tag, rfl⟩, mode := rfl, run := h.run, check := h.check, verbRun := rfl, abort := h.abort }

section

variable (h : Sound b p) (hm : ∀ phase, p.sup.mode ≠ .targetRun phase) (tag : Option Tag) (args : List Arg)

include h hm

theorem sound_abortVerb : Sound b (abortVerb tag args p) := by
  unfold abortVerb
  split
  · exact sound_abortOperation (sound_con h _) hm
  · exact sound_con h _

theorem sound_probeVerb : Sound b (probeVerb tag args p) := by
  unfold probeVerb
  split
  · split
    · exact sound_con h _
    · split
      · exact sound_con h _
      · exact sound_beginProbe ((vacant_of_free h.1 ‹_› hm).serving (.probe ..) tag)
  · exact sound_con h _

theorem sound_volumeVerb : Sound b (volumeVerb tag args p) := by
  unfold volumeVerb
  split
  · split
    · exact sound_con h _
    · split
      · exact sound_con h _
      · exact sound_beginVolume ((vacant_of_free h.1 ‹_› hm).serving (.volume ..) tag)
  · exact sound_con h _

theorem sound_seekTaken (clear : Bool) (hs : ¬ slotHeld p = true) : Sound b (seekTaken clear tag p) := by
  have hv := vacant_of_free h.1 hs hm
  unfold seekTaken
  cases clear with
  | true => exact sound_beginRun _ _ { hv.toReady with } hv.check hv.abort
  | false => exact sound_beginRun _ _ { hv.toReady with } hv.check hv.abort

theorem sound_seekVerb : Sound b (seekVerb tag args p) := by
  unfold seekVerb
  split
  · split
    · exact sound_con h _
    · exact sound_seekTaken h hm tag _ ‹_›
  · split
    · exact sound_con h _
    · split
      · exact sound_con h _
      · exact sound_seekTaken h hm tag _ ‹_›
  · exact sound_con h _

theorem sound_editMap (i : Idx) (r : Option Region) (hs : ¬ slotHeld p = true) : Sound b (editMap i r p) := by
  have hv := vacant_of_free h.1 hs hm
  exact Vacant.sound (p := editMap i r p) { hv with } hm

theorem sound_mapPutVerb : Sound b (mapPutVerb tag args p) := by
  unfold mapPutVerb
  split
  · split
    · exact sound_con h _
    · split
      · exact sound_con h _
      · split
        · exact sound_con h _
        · split
          · exact sound_con h _
          · split
            · exact sound_con h _
            · split
              · exact sound_con h _
              · exact sound_editMap (p := replyOk tag p) (sound_con h _) hm _ _ ‹_›
  · exact sound_con h _

theorem sound_mapDelVerb : Sound b (mapDelVerb tag args p) := by
  unfold mapDelVerb
  split
  · split
    · exact sound_con h _
    · split
      · exact sound_con h _
      · split
        · exact sound_con h _
        · exact sound_con (sound_editMap h hm _ _ ‹_›) _
  · exact sound_con h _

theorem sound_peekWords (a n : Nat) : Sound b (peekWords tag a n p) := by
  unfold peekWords
  split
  · exact sound_con h _
  · split
    · exact sound_con h _
    · split
      · exact sound_con h _
      · split
        · exact sound_con h _
        · split
          · exact sound_con h _
          · exact sound_peekFrom _ _ ((vacant_of_free h.1 ‹_› hm).serving (.peek tag a n []) tag) rfl

theorem sound_peekVerb : Sound b (peekVerb tag args p) := by
  unfold peekVerb
  split
  · exact sound_peekWords h hm _ _ _
  · exact sound_peekWords h hm _ _ _
  · exact sound_con h _

theorem sound_pokeVerb : Sound b (pokeVerb tag args p) := by
  unfold pokeVerb
  split
  · split
    · exact sound_con h _
    · exact sound_beginPoke _ _ ((vacant_of_free h.1 ‹_› hm).serving (.poke tag) tag)
  · exact sound_con h _

theorem sound_checkVerb : Sound b (checkVerb tag args p) := by
  unfold checkVerb
  split
  · exact sound_con h _
  · split
    · exact sound_con h _
    · split
      · exact sound_con h _
      · split
        · exact sound_con h _
        · split
          · exact sound_con h _
          · have hv := vacant_of_free h.1 ‹_› hm
            exact sound_beginCheck _ _ _ _ _ _ _
              { hv.toReady with slot := .inr ⟨tag, rfl, rfl⟩, run := hv.run, verbRun := rfl, abort := hv.abort }

theorem sound_startTaken (boot : Bool) (port : Port) (unit : Nat) (raw : Bool) (hs : ¬ slotHeld p = true) :
    Sound b (startTaken boot tag port unit raw p) := by
  have hv := vacant_of_free h.1 hs hm
  unfold startTaken
  cases boot with
  | true => exact sound_beginStart ((hv.serving (.start true tag port unit raw .probing) tag).con _)
  | false => exact sound_beginStart ((hv.serving (.start false tag port unit raw .probing) tag).con _)

theorem sound_startVerb (boot : Bool) : Sound b (startVerb boot tag args p) := by
  have hj : ∀ x u raw, Sound b (match portUnit? x u with
      | none => refuse 112 tag p
      | some (port, unit) => if slotHeld p then refuse 121 tag p else startTaken boot tag port unit raw p) := by
    intro x u raw
    split
    · exact sound_con h _
    · split
      · exact sound_con h _
      · exact sound_startTaken h hm tag _ _ _ _ ‹_›
  unfold startVerb
  dsimp only
  split
  · exact hj _ _ _
  · split
    · exact hj _ _ _
    · exact sound_con h _
  · exact sound_con h _

end

theorem sound_goVerb (h : Sound b p) (tag : Option Tag) (args : List Arg) : Sound b (goVerb tag args p) := by
  unfold goVerb
  split
  · split
    · rename_i hmode hi _
      split
      · exact sound_con h _
      · split
        · exact sound_con h _
        · have hv := vacant_of_free h.1 ‹_› (by rw [hmode]; nofun)
          exact sound_release (p := replyOk tag (takeSlot .go tag none p)) { hv.toReady with } hi hv.run hv.check hv.abort _ _
    · exact sound_con h _
  · exact sound_con h _

/-! ### HOLD (R128) -/

theorem sound_holdVerb (h : Sound b p) (tag : Option Tag) (args : List Arg) : Sound b (holdVerb tag args p) := by
  unfold holdVerb
  split
  · rename_i r hr
    obtain ⟨hready, hrun, hcheck, -⟩ := (targetRuns_of_released h.1 hr).hold
    unfold holdTaken
    dsimp only
    split
    · exact sound_goIdle { hready with } hrun hcheck
    · exact sound_goIdle { hready with } hrun hcheck
  · exact sound_con h _
  · exact sound_con h _

/-! ### SET and DEFAULTS (R156, R165) -/

theorem setNumber_map (s : Settings) (n : SettingName) (x : Nat) : (setNumber s n x).map = s.map := by
  cases n <;> rfl

theorem setKeyword_map {s t : Settings} {n : SettingName} {w : Text} (h : setKeyword s n w = some t) : t.map = s.map := by
  cases n with
  | autostart | verify | autocheck | checkfail | portKind =>
    obtain ⟨k, -, rfl⟩ := Option.map_eq_some_iff.mp h
    rfl
  | _ => cases h

theorem judgeSetting_map {s t : Settings} {n : SettingName} {v : Arg} (h : judgeSetting s n v = .inr t) : t.map = s.map := by
  cases v with
  | num x =>
    simp only [judgeSetting] at h
    split at h
    · split at h
      · cases h
        exact setNumber_map s n x
      · cases h
    · cases h
  | word w =>
    simp only [judgeSetting] at h
    split at h
    · rename_i hk
      cases h
      exact setKeyword_map hk
    · cases h

theorem Vacant.setEntry (h : Vacant p) (port : Port) {e : PortEntry} (ho : e.op = none) : Vacant (setEntry port e p) := by
  have hops : operations (Machine.setEntry port e p) = [] := by
    cases he : entryOf p port with
    | some x => exact operations_setEntry_nil h.ops he ho
    | none =>
      have hp : p.spc.ports = none := Option.map_eq_none_iff.mp he
      simp [operations, Machine.setEntry, hp]
  exact { h with ops := hops }

theorem Vacant.resetEntry (h : Vacant p) (port : Port) (kind : PortKind) : Vacant (resetEntry port kind p) :=
  h.setEntry port rfl

theorem sound_setTaken (h : Sound b p) {n : SettingName} {s : Settings} (tag : Option Tag)
    (hs : s.map = p.sst.settings.map) (hv : n.isPortKind = true → Vacant p) (hm : ∀ phase, p.sup.mode ≠ .targetRun phase) :
    Sound b (setTaken n s tag p) := by
  have hset : Sound b (setSettings s p) := sound_sst h hs
  unfold setTaken
  dsimp only
  split
  · rename_i port
    have hv : Vacant (setSettings s p) := { hv rfl with }
    exact sound_con ((hv.resetEntry port _).sound hm) _
  · exact sound_con hset _
  · exact sound_con hset _

theorem sound_setVerb (h : Sound b p) (hm : ∀ phase, p.sup.mode ≠ .targetRun phase) (tag : Option Tag) (args : List Arg) :
    Sound b (setVerb tag args p) := by
  unfold setVerb
  split
  · split
    · exact sound_con h _
    · rename_i n _
      split
      · exact sound_con h _
      · split
        · exact sound_con h _
        · rename_i s hj hfree
          exact sound_setTaken h tag (judgeSetting_map hj) (fun hk => vacant_of_free h.1 (fun hs => hfree ⟨hk, hs⟩) hm) hm
  · exact sound_con h _

theorem Vacant.loadDefaults (h : Vacant p) : Vacant (loadDefaults p) := by
  have hports : ∀ (l : List Port) {p : Part}, Vacant p →
      Vacant (l.foldl (fun p port => Machine.resetEntry port (defaultSettings.kinds.get port) p) p) := by
    intro l
    induction l with
    | nil => exact id
    | cons x l ih => exact fun hp => ih (hp.resetEntry x _)
  have hregions : ∀ (l : List Idx) {p : Part}, Vacant p → Vacant (l.foldl (fun p i => setHealth i .unchecked p) p) := by
    intro l
    induction l with
    | nil => exact id
    | cons x l ih => exact fun hp => ih { hp with }
  exact hregions _ (hports _ { h with })

theorem loadDefaults_sup (p : Part) : (loadDefaults p).sup = p.sup := by
  have hports : ∀ (l : List Port) (p : Part),
      (l.foldl (fun p port => Machine.resetEntry port (defaultSettings.kinds.get port) p) p).sup = p.sup := by
    intro l
    induction l with
    | nil => exact fun _ => rfl
    | cons x l ih => exact fun p => ih _
  have hregions : ∀ (l : List Idx) (p : Part), (l.foldl (fun p i => setHealth i .unchecked p) p).sup = p.sup := by
    intro l
    induction l with
    | nil => exact fun _ => rfl
    | cons x l ih => exact fun p => ih _
  exact (hregions _ _).trans (hports _ _)

theorem eight_ext {α : Type} {s t : Eight α} (h : ∀ i, s.get i = t.get i) : s = t := by
  obtain ⟨⟩ := s
  obtain ⟨⟩ := t
  rw [Eight.mk.injEq]
  exact ⟨h .r1, h .r2, h .r3, h .r4, h .r5, h .r6, h .r7, h .r8⟩

/-- DEFAULTS that changes no region leaves the map. -/
theorem map_of_no_changedRegions {s : Settings} (h : changedRegions s = []) : defaultSettings.map = s.map := by
  have hget : ∀ i, s.map.get i = defaultSettings.map.get i := fun i => by
    have hi := List.filter_eq_nil_iff.mp h i (by cases i <;> decide)
    simpa using hi
  exact eight_ext fun i => (hget i).symm

theorem sound_defaultsVerb (h : Sound b p) (hm : ∀ phase, p.sup.mode ≠ .targetRun phase) (tag : Option Tag)
    (args : List Arg) : Sound b (defaultsVerb tag args p) := by
  unfold defaultsVerb
  split
  · split
    · exact sound_con h _
    · split
      · exact sound_con h _
      · rename_i hfree
        unfold defaultsTaken
        by_cases hs : slotHeld p = true
        · obtain ⟨hk, hr⟩ := not_or.mp fun hc => hfree ⟨hs, hc⟩
          have he : loadDefaults p = { p with sst := { p.sst with settings := defaultSettings, source := .defaults } } := by
            unfold loadDefaults
            rw [Classical.not_not.mp hk, Classical.not_not.mp hr]
            rfl
          rw [he]
          exact sound_con (sound_sst h (map_of_no_changedRegions (Classical.not_not.mp hr))) _
        · refine sound_con ((vacant_of_free h.1 hs hm).loadDefaults.sound ?_) _
          rw [loadDefaults_sup]
          exact hm
  · exact sound_con h _

/-! ### Admission (R141) -/

/-- A verb that TARGET-RUN does not take is taken with the target held. -/
theorem noTarget_of_admits {v : Verb} {m : Mode} (hv : ∀ phase, admits v (.targetRun phase) = false) (h : admits v m = true)
    (phase : WindowPhase) : m ≠ .targetRun phase := by
  rintro rfl
  cases (hv phase).symm.trans h

theorem sound_ownerOf (h : Sound b p) (v : Verb) (tag : Option Tag) (args : List Arg)
    (ha : v = .go ∨ admits v p.sup.mode = true) : Sound b (ownerOf v tag args p) := by
  have hm : (∀ phase, admits v (.targetRun phase) = false) → v ≠ .go → ∀ phase, p.sup.mode ≠ .targetRun phase :=
    fun hv hg => noTarget_of_admits hv (ha.resolve_left hg)
  cases v with
  | abort => exact sound_abortVerb h (hm (fun _ => rfl) nofun) tag args
  | answer => exact sound_answerVerb h tag args
  | boot => exact sound_startVerb h (hm (fun _ => rfl) nofun) tag args true
  | stage => exact sound_startVerb h (hm (fun _ => rfl) nofun) tag args false
  | check => exact sound_checkVerb h (hm (fun _ => rfl) nofun) tag args
  | defaults => exact sound_defaultsVerb h (hm (fun _ => rfl) nofun) tag args
  | get => exact sound_getVerb h tag args
  | go => exact sound_goVerb h tag args
  | hold => exact sound_holdVerb h tag args
  | mapPut => exact sound_mapPutVerb h (hm (fun _ => rfl) nofun) tag args
  | mapDel => exact sound_mapDelVerb h (hm (fun _ => rfl) nofun) tag args
  | orderPut => exact sound_orderPutVerb h tag args
  | orderDel => exact sound_orderDelVerb h tag args
  | orderMove => exact sound_orderMoveVerb h tag args
  | peek => exact sound_peekVerb h (hm (fun _ => rfl) nofun) tag args
  | poke => exact sound_pokeVerb h (hm (fun _ => rfl) nofun) tag args
  | probe => exact sound_probeVerb h (hm (fun _ => rfl) nofun) tag args
  | restart => exact sound_restartVerb h tag args
  | save => exact sound_saveVerb h tag args
  | seek => exact sound_seekVerb h (hm (fun _ => rfl) nofun) tag args
  | set => exact sound_setVerb h (hm (fun _ => rfl) nofun) tag args
  | volume => exact sound_volumeVerb h (hm (fun _ => rfl) nofun) tag args
  | stat =>
    show Sound b (statVerb .console tag args p)
    unfold statVerb
    split
    · exact sound_con h _
    · exact sound_con h _
  | defects | log | mapList | orderList | ports | spent => exact sound_listVerb h _ tag args
  | mapOther | orderOther | alive | revert | hand | reboot => exact sound_con h _

theorem sound_takeConsole (h : Sound b p) (r : Request) : Sound b (takeConsole r p) := by
  unfold takeConsole
  split
  · exact sound_con h _
  · split
    · exact sound_ownerOf h _ _ _ ‹_›
    · exact sound_con h _

theorem sound_followConsole (h : Sound b p) (x : Parsed) : Sound b (followConsole x p) := by
  cases x with
  | refused code tag => exact sound_con h _
  | request r => exact sound_takeConsole h r

theorem sound_takeConsoleLine (h : Sound b p) (q : QueuedLine) : Sound b (takeConsoleLine q p) := by
  cases q with
  | text t => exact sound_followConsole h _
  | _ => exact sound_con h _

/-! ### The target's requests (R121 to R127) -/

/-- An update of the target line that leaves it open or closed. -/
theorem sound_tgt (h : Sound b p) {t : Target} (ho : t.isOpen = p.tgt.isOpen) : Sound b { p with tgt := t } :=
  h.congr ⟨rfl, rfl, rfl, rfl, rfl, rfl, rfl, rfl, rfl, rfl, rfl, rfl, rfl, rfl, ho, rfl⟩

theorem startTarget_isOpen (t : Target) : (startTarget t).isOpen = t.isOpen := by
  unfold startTarget
  split <;> rfl

theorem sound_handTarget (h : Sound b p) (i : TargetItem) : Sound b (handTarget i p) :=
  sound_tgt h (startTarget_isOpen _)

theorem sound_stopAccepting (h : Sound b p) : Sound b (stopAccepting p) := sound_tgt h rfl

theorem TargetRuns.stopWindow {r : Released} (h : TargetRuns r p) : TargetRuns r (stopWindow p) :=
  { h with window := .inl rfl }

theorem TargetRuns.handTarget {r : Released} (h : TargetRuns r p) (i : TargetItem) : TargetRuns r (handTarget i p) :=
  { h with isOpen := (startTarget_isOpen _).trans h.isOpen }

theorem sound_confirm (tag : Option Tag) {r : Released} (h : TargetRuns r p) : Sound b (confirm tag r p) :=
  TargetRuns.sound (r := { r with phase := .running }) (p := confirm tag r p)
    { h with
      mode := ⟨nofun, nofun⟩
      released := rfl
      phase := rfl
      isOpen := (startTarget_isOpen _).trans h.isOpen
      window := .inl rfl }

theorem sound_takeTarget (h : Sound b p) (r : Request) : Sound b (takeTarget r p) := by
  have hreply : ∀ x, Sound b (targetReply x p) := fun x => sound_handTarget h _
  unfold takeTarget
  split
  · exact hreply _
  · rename_i rel hrel
    have ht := targetRuns_of_released h.1 hrel
    split
    · unfold aliveVerb
      split
      · exact hreply _
      · split
        · split
          · exact sound_confirm _ ht
          · exact hreply _
        · exact hreply _
    · unfold revertVerb
      split
      · exact hreply _
      · split
        · exact sound_handTarget (sound_stopAccepting ht.stopWindow.sound) _
        · exact hreply _
    · unfold handVerb
      split
      · split
        · exact hreply _
        · exact hreply _
      · exact hreply _
    · unfold rebootVerb
      split
      · exact sound_handTarget (sound_stopAccepting ht.stopWindow.sound) _
      · exact hreply _
    · unfold statVerb
      split
      · exact sound_handTarget h _
      · exact sound_handTarget h _
    · exact hreply _

theorem sound_followTarget (h : Sound b p) (x : Parsed) : Sound b (followTarget x p) := by
  cases x with
  | refused code tag => exact sound_handTarget h _
  | request r => exact sound_takeTarget h r

theorem sound_takeTargetLine (h : Sound b p) (q : QueuedLine) : Sound b (takeTargetLine q p) := by
  cases q with
  | text t => exact sound_followTarget h _
  | _ => exact sound_handTarget h _

end

end Sys2Proof.Proofs

/-! PROOFS. The condition on the slot and that on the transaction in flight, kept by every step; and the state after reset. -/

namespace Sys2Proof.Proofs

open Sys2Proof Sys2Proof.Machine

section

variable {b : Bool} {p : Part}

/-! ### Line queues (R172 to R175) -/

theorem sound_takeConsoleLines (n : Nat) (h : Sound b p) : Sound b (takeConsoleLines n p) := by
  induction n generalizing p with
  | zero => exact h
  | succ n ih =>
    unfold takeConsoleLines
    split
    · exact ih (sound_takeConsoleLine (sound_con h _) _)
    · exact h

theorem sound_takeTargetLines (n : Nat) (h : Sound b p) : Sound b (takeTargetLines n p) := by
  induction n generalizing p with
  | zero => exact h
  | succ n ih =>
    unfold takeTargetLines
    split
    · exact h
    · rename_i rest _
      split
      · exact ih (sound_takeTargetLine (sound_tgt (t := { p.tgt with lines := rest }) h rfl) _)
      · exact h

theorem sound_offerConsole (h : Sound b p) (q : QueuedLine) : Sound b (offerConsole q p) := by
  unfold offerConsole
  split
  · exact sound_takeConsoleLines _ (sound_con h _)
  · exact sound_con h _

theorem sound_offerTarget (h : Sound b p) (q : QueuedLine) : Sound b (offerTarget q p) := by
  unfold offerTarget
  split
  · exact sound_takeTargetLines _ (sound_tgt (t := { p.tgt with lines := p.tgt.lines ++ [q] }) h rfl)
  · exact sound_con h _

theorem sound_arriveConsole {take : Part → Part} (h : Sound b p) (ht : Sound b (take p)) (q : QueuedLine) :
    Sound b (arriveConsole take q p) := by
  unfold arriveConsole
  split
  · exact ht
  · exact sound_offerConsole h q

theorem sound_arriveTarget {take : Part → Part} (h : Sound b p) (ht : Sound b (take p)) (q : QueuedLine) :
    Sound b (arriveTarget take q p) := by
  unfold arriveTarget
  split
  · exact h
  · split
    · exact ht
    · exact sound_offerTarget h q

theorem sound_setTargetLine (h : Sound b p) (l : Partial) : Sound b (setTargetLine l p) := sound_tgt h rfl

theorem sound_receive (h : Sound b p) (l : Line) (x : Byte) : Sound b (receive l x p) := by
  cases l with
  | console =>
    have hs : Sound b (setConsoleLine (buildLine x p.con.line).1 p) := sound_con h _
    unfold receive receiveConsole
    dsimp only
    split
    · exact h
    · split
      · exact hs
      · exact sound_offerConsole hs _
  | target =>
    have hs := sound_setTargetLine h (buildLine x p.tgt.line).1
    unfold receive receiveTarget
    dsimp only
    split
    · exact h
    · split
      · exact hs
      · exact sound_offerTarget hs _

theorem sound_frameError (h : Sound b p) (l : Line) : Sound b (frameError l p) := by
  unfold frameError
  split
  · split
    · exact h
    · exact sound_con h _
  · split
    · exact h
    · exact sound_setTargetLine h _

theorem sound_consoleBreak (h : Sound b p) : Sound b (consoleBreak p) := by
  unfold consoleBreak
  split
  · exact h
  · exact sound_takeBreak (sound_con h _)

theorem sound_markingAgain (h : Sound b p) (l : Line) : Sound b (markingAgain l p) := by
  cases l with
  | console => exact sound_con h _
  | target => exact sound_tgt (t := { p.tgt with waitMarking := false }) h rfl

theorem sound_targetSpacing (h : Sound b p) : Sound b (targetSpacing p) := by
  unfold targetSpacing
  split
  · exact sound_tgt (t := { p.tgt with waitMarking := true }) h rfl
  · exact h

/-! ### The end of a record (R182, R185) -/

theorem sound_consoleSent (h : Sound b p) : Sound b (consoleSent p) := by
  unfold consoleSent
  split
  · exact h
  · rename_i i _
    have hr : Sound b (restartAfter i p) := by
      unfold restartAfter
      split
      · exact sound_takeRestart p
      · exact h
    have hs : Sound b (switchAfter i (restartAfter i p)) := by
      unfold switchAfter
      split
      · exact sound_con hr _
      · exact hr
    exact sound_takeConsoleLines _ (sound_con hs _)

theorem sound_targetSent (h : Sound b p) : Sound b (targetSent p) := by
  unfold targetSent
  split
  · exact h
  · split
    · exact sound_failWindow h _
    · exact sound_takeRestart p
    · exact sound_takeTargetLines _ (sound_tgt h (startTarget_isOpen _))

/-! ### Every step -/

theorem sound_effect {f : Part → Part} (hf : Effect f) (h : Sound b p) : Sound b (f p) := by
  cases hf with
  | powerReset cause => exact sound_takePowerReset cause p
  | settle => exact sound_settle h
  | initExpiry => exact sound_initExpiry h
  | answerExchange kind result port => exact sound_answerExchange h kind result port
  | linkBytes port bytes => exact sound_linkBytes h port bytes
  | exchangeExpiry port => exact sound_exchangeExpiry h port
  | linkSent port => exact sound_linkSent h port
  | senseLevel port card => exact sound_senseLevel h port card
  | cardIn port => exact sound_cardIn h port
  | cardOut port => exact sound_cardOut h port
  | questionExpiry => exact sound_questionExpiry h
  | waitExpiry => exact sound_waitExpiry h
  | windowExpiry => exact sound_windowExpiry h
  | busResponse mrdy merr word => exact sound_busResponse h mrdy merr word
  | responseExpiry => exact sound_responseExpiry h
  | writeEnded e => exact sound_writeEnded h e
  | saveExpiry => exact sound_saveExpiry h
  | receive l x => exact sound_receive h l x
  | frameError l => exact sound_frameError h l
  | consoleBreak => exact sound_consoleBreak h
  | markingAgain l => exact sound_markingAgain h l
  | targetSpacing => exact sound_targetSpacing h
  | consoleSent => exact sound_consoleSent h
  | targetSent => exact sound_targetSent h
  | consoleLine q => exact sound_arriveConsole h (sound_takeConsoleLine h q) q
  | targetLine q => exact sound_arriveTarget h (sound_takeTargetLine h q) q
  | consoleWords x q => exact sound_arriveConsole h (sound_followConsole h x) q
  | targetWords x q => exact sound_arriveTarget h (sound_followTarget h x) q

end

/-- Settles O58: what runs goes on from a part ready for it, or gives the slot back. -/
theorem slotStaysSound : Obligations.SlotStaysSound :=
  keptByEveryStep_of_effect fun _ hf _ hp => (sound_effect (b := false) hf ⟨hp, nofun⟩).1

/-- Settles O59: the same steps, with the transaction in flight judged by the map and the target's reset as they stand. -/
theorem transactionsStayPermitted : Obligations.TransactionsStayPermitted :=
  keptByEveryStep_of_effect fun _ hf _ hp =>
    have hs := sound_effect (b := true) hf ⟨hp.1, fun _ => hp.2⟩
    ⟨hs.1, hs.2 rfl⟩

/-! ### The state after reset -/

theorem reset_idle : Idle State.reset.toPart := by
  refine ⟨rfl, rfl, rfl, rfl, rfl, rfl, rfl, rfl, rfl, rfl, rfl, rfl, rfl, rfl, rfl, rfl, rfl, rfl, fun port e he => ?_⟩
  cases he

theorem reset_lists : listsSound State.reset.toPart := by
  refine ⟨Nat.zero_le _, trivial, Nat.le_refl _, by decide, fun r hr => ?_, Nat.zero_le _, Nat.zero_le _, Nat.zero_le _, Nat.zero_le _⟩
  cases hr

theorem reset_console : consoleSound State.reset.toPart :=
  ⟨Nat.zero_le _, Nat.zero_le _, Nat.zero_le _, nofun, fun h => absurd rfl h, Nat.zero_le _, Nat.zero_le _, nofun, nofun⟩

theorem reset_target : targetSound State.reset.toPart :=
  ⟨Nat.zero_le _, Nat.zero_le _, Nat.zero_le _, fun _ => ⟨rfl, rfl, rfl, rfl⟩, fun _ => rfl, nofun, fun h => absurd rfl h⟩

theorem reset_areas :
    State.reset.toPart.sst.areaA = none ∧ State.reset.toPart.sst.areaB = none ∧ State.reset.toPart.sst.saving = none :=
  ⟨rfl, rfl, rfl⟩

theorem reset_defaults : State.reset.toPart.sst.settings = defaultSettings := rfl

theorem reset_unsettled : State.reset.toPart.sup.settled = false := rfl

theorem reset_settings : settingsSound State.reset.toPart := by
  obtain ⟨hA, hB, hs⟩ := reset_areas
  refine ⟨reset_defaults ▸ defaultSettings_sound, fun c hc => ?_, fun c hc => ?_, fun v hv => ?_⟩
  · cases hA.symm.trans hc
  · cases hB.symm.trans hc
  · cases hs.symm.trans hv

theorem reset_copies : copiesSound State.reset.toPart := by
  obtain ⟨hA, -, hs⟩ := reset_areas
  refine ⟨fun g hg => ?_, fun h => ?_, fun v hv => ?_⟩
  · rw [hA] at hg
    cases hg
  · cases reset_unsettled.symm.trans h
  · cases hs.symm.trans hv

theorem reset_sound : Sound true State.reset.toPart := by
  have h := sound_takePowerReset (b := true) .powerOn State.reset.toPart
  exact h

/-- Settles O60: the reset state's fields, and the rules of the default settings. -/
theorem resetMeetsTheConditions : Obligations.ResetMeetsTheConditions :=
  ⟨reset_settings, ⟨fun _ => reset_idle, fun _ => rfl⟩, reset_copies, reset_lists, reset_console, reset_target, reset_sound.1,
    reset_sound.2 rfl⟩

end Sys2Proof.Proofs

/-! PROOFS. The request grammar: written numbers (R177, R179), the words of a line (R176) and the line of a verb command (R178),
typed byte by byte (R170, R171). -/

namespace Sys2Proof.Proofs

open Sys2Proof Sys2Proof.Machine

-- One proof after another: all of them at once would take a thread and its stack each.
set_option Elab.async false

/-! ### Numbers (R177, R179) -/

theorem digitsValue_append (base : Nat) (ds : Text) (c : Char) :
    digitsValue base (ds ++ [c]) = base * digitsValue base ds + (hexValue? c).getD 0 := by
  simp [digitsValue, List.foldl_append]

theorem hexValue?_hexDigit : ∀ d < 16, hexValue? (hexDigit d) = some d := by decide

/-- Hexadecimal digits with their value: at least one, all of them digits. -/
structure HexDigits (n : Nat) (ds : Text) : Prop where
  some : ds ≠ []
  hex : ds.all isHex = true
  value : digitsValue 16 ds = n

theorem HexDigits.single {n : Nat} (h : n < 16) : HexDigits n [hexDigit n] where
  some := nofun
  hex := by simp [isHex, hexValue?_hexDigit n h]
  value := by simp [digitsValue, hexValue?_hexDigit n h]

theorem HexDigits.append {n d : Nat} {ds : Text} (h : HexDigits n ds) (hd : d < 16) :
    HexDigits (16 * n + d) (ds ++ [hexDigit d]) where
  some := by simp
  hex := by simp [h.hex, isHex, hexValue?_hexDigit d hd]
  value := by rw [digitsValue_append, h.value, hexValue?_hexDigit d hd]; rfl

/-- The digits written before a tail, at most `m` for a number below 16 to the `m`. -/
theorem hexAppend_digits {k n m : Nat} (hk : n < k) (hm : n < 16 ^ (m + 1)) (tail : Text) :
    ∃ ds, hexAppend k n tail = ds ++ tail ∧ HexDigits n ds ∧ ds.length ≤ m + 1 := by
  induction k generalizing n m tail with
  | zero => omega
  | succ k ih =>
    unfold hexAppend
    split
    · exact ⟨[hexDigit n], rfl, .single ‹_›, Nat.le_add_left 1 m⟩
    · cases m with
      | zero => omega
      | succ m =>
        have hm' : n / 16 < 16 ^ (m + 1) := Nat.div_lt_of_lt_mul (by rwa [Nat.mul_comm, ← Nat.pow_succ])
        obtain ⟨ds, he, hds, hlen⟩ := ih (n := n / 16) (m := m) (by omega) hm' (hexDigit (n % 16) :: tail)
        have hn := hds.append (Nat.mod_lt n (by decide : 0 < 16))
        rw [Nat.div_add_mod] at hn
        exact ⟨_, by rw [he, List.append_assoc]; rfl, hn, by simpa using hlen⟩

theorem classifyWord_hexText {n : Nat} (hn : n < 0x100000000) : classifyWord (hexText n) = .inr (.num n) := by
  obtain ⟨ds, he, hds, hlen⟩ := hexAppend_digits (m := 7) (Nat.lt_succ_self n) hn []
  rw [hexText, he, List.append_nil]
  unfold classifyWord
  rw [if_pos ⟨hds.some, hds.hex⟩, if_neg (Nat.not_lt.mpr hlen), hds.value]

theorem digitChar_digit : ∀ d < 10, isDigit d.digitChar = true ∧ hexValue? d.digitChar = some d := by decide

/-- Decimal digits read back as their number. -/
theorem toDigits_decimal (n : Nat) :
    (Nat.toDigits 10 n).all isDigit = true ∧ digitsValue 10 (Nat.toDigits 10 n) = n := by
  induction n using Nat.strongRecOn with
  | ind n ih =>
    by_cases h : n < 10
    · obtain ⟨hd, hv⟩ := digitChar_digit n h
      rw [Nat.toDigits_of_lt_base h]
      simp [hd, digitsValue, hv]
    · obtain ⟨hd, hv⟩ := digitChar_digit (n % 10) (Nat.mod_lt _ (by decide))
      obtain ⟨ihd, ihv⟩ := ih (n / 10) (by omega)
      rw [Nat.toDigits_of_base_le (by decide) (by omega)]
      refine ⟨by simp [ihd, hd], ?_⟩
      rw [digitsValue_append, ihv, hv, Option.getD_some]
      omega

theorem classifyWord_decimal {n : Nat} (hn : n < 0x100000000) :
    classifyWord (Nat.toDigits 10 n ++ ['.']) = .inr (.num n) := by
  obtain ⟨hd, hv⟩ := toDigits_decimal n
  have hlen : (Nat.toDigits 10 n).length ≤ 10 := (Nat.length_toDigits_le_iff (by decide) (by decide)).mpr (by omega)
  have hdec : decimalDigits? (Nat.toDigits 10 n ++ ['.']) = some (Nat.toDigits 10 n) := by
    simp [decimalDigits?, hd, Nat.toDigits_ne_nil]
  have hdot : isHex '.' = false := by decide
  unfold classifyWord
  rw [if_neg (by simp [hdot]), hdec]
  dsimp only
  rw [if_neg (by omega), hv]

/-- Settles O5: the digits that are written have the number as their value, and few enough of them are written. -/
theorem writtenNumbersReadBack : Obligations.WrittenNumbersReadBack :=
  fun _ hn => ⟨classifyWord_hexText hn, classifyWord_decimal hn⟩

/-! ### The words of a line (R176) -/

/-- A word is read up to the space that ends it. -/
theorem splitWordsFrom_word {w : Text} (hw : ∀ c ∈ w, c ≠ ' ') (cur rest : Text) :
    splitWordsFrom cur (w ++ rest) = splitWordsFrom (w.reverse ++ cur) rest := by
  induction w generalizing cur with
  | nil => rfl
  | cons c w ih =>
    obtain ⟨hc, hw⟩ := List.forall_mem_cons.mp hw
    rw [List.cons_append, splitWordsFrom, if_neg hc, ih hw]
    simp

/-- The words of a line are the words it was joined from. -/
theorem splitWords_joinText {ws : List Text} (h : ∀ w ∈ ws, w ≠ [] ∧ ∀ c ∈ w, c ≠ ' ') : splitWords (joinText ws) = ws := by
  induction ws with
  | nil => rfl
  | cons w ws ih =>
    obtain ⟨⟨hne, hw⟩, hws⟩ := List.forall_mem_cons.mp h
    have hrev : w.reverse ≠ [] := by simpa using hne
    cases ws with
    | nil =>
      have hsplit := splitWordsFrom_word hw [] []
      simp only [List.append_nil] at hsplit
      simp [splitWords, joinText, hsplit, splitWordsFrom, hne]
    | cons x xs =>
      have hsplit := splitWordsFrom_word hw [] (' ' :: joinText (x :: xs))
      rw [splitWords, joinText, hsplit, splitWordsFrom, if_pos rfl, if_neg (by simpa using hne)]
      · simp only [List.append_nil, List.reverse_reverse]
        exact congrArg _ (ih hws)
      · nofun

theorem wordChar_ne_space {c : Char} (h : wordChar c = true) : c ≠ ' ' := by
  rintro rfl
  exact absurd h (by decide)

theorem words_of_isLine {ws : List Text} (h : isLine ws = true) : ∀ w ∈ ws, w ≠ [] ∧ ∀ c ∈ w, c ≠ ' ' := by
  intro w hw
  simp only [isLine, Bool.and_eq_true, List.all_eq_true] at h
  have hword := h.1 w hw
  simp only [isWord, Bool.and_eq_true, decide_eq_true_eq, List.all_eq_true] at hword
  exact ⟨hword.1, fun c hc => wordChar_ne_space (hword.2 c hc)⟩

theorem parseLine_joinText {ws : List Text} (h : isLine ws = true) (l : Line) : parseLine l (joinText ws) = parseWords l ws :=
  congrArg (parseWords l) (splitWords_joinText (words_of_isLine h))

/-! ### The tag and the verb (R176, R178) -/

theorem parseTag_tagText (t : Tag) : ∃ rest, tagText t = '#' :: rest ∧ parseTag rest = some t := by
  have hlt := t.isLt
  refine ⟨_, rfl, ?_⟩
  have hhi := hexValue?_hexDigit (t.toNat / 16) (by omega)
  have hlo := hexValue?_hexDigit (t.toNat % 16) (by omega)
  simp only [parseTag, hhi, hlo, Nat.div_add_mod, BitVec.ofNat_toNat, BitVec.setWidth_eq]

/-- A line that opens with a tag. -/
theorem parseWords_tag (l : Line) (t : Tag) (ws : List Text) : parseWords l (lineWords (some t) ws) = parseVerb l (some t) ws := by
  obtain ⟨rest, he, ht⟩ := parseTag_tagText t
  rw [lineWords, he, parseWords, ht]

/-- A line that opens with no tag. -/
theorem parseWords_noTag (l : Line) {w : Text} (hw : w.head? ≠ some '#') (ws : List Text) :
    parseWords l (w :: ws) = parseVerb l none (w :: ws) := by
  unfold parseWords
  split
  · rename_i he
    cases he
    exact absurd rfl hw
  · rfl

theorem parseVerb_console {w : Text} {v : Verb} (hm : w ≠ "MAP".toList) (ho : w ≠ "ORDER".toList)
    (hv : findWord consoleVerbs w = some v) (tag : Option Tag) (args : List Text) :
    parseVerb .console tag (w :: args) = verbRequest v tag args := by
  cases hc : classifyWords args <;> simp only [parseVerb, hm, ho, hv, hc, if_false, Option.map_some, verbRequest]

theorem parseVerb_target {w : Text} {v : Verb} (hv : findWord targetVerbs w = some v) (tag : Option Tag) (args : List Text) :
    parseVerb .target tag (w :: args) = verbRequest v tag args := by
  cases hc : classifyWords args <;> simp only [parseVerb, hv, hc, Option.map_some, verbRequest]

theorem parseVerb_map {w : Text} {v : Verb} (hw : classifyWord w = .inr (.word w)) (hv : findWord mapWords w = some v)
    (tag : Option Tag) (args : List Text) : parseVerb .console tag ("MAP".toList :: w :: args) = verbRequest v tag args := by
  simp only [parseVerb, if_true, classifyWords, hw, verbRequest]
  cases classifyWords args with
  | inl code => rfl
  | inr as => simp [splitVerb, hv]

theorem parseVerb_order {w : Text} {v : Verb} (hw : classifyWord w = .inr (.word w)) (hv : findWord orderWords w = some v)
    (tag : Option Tag) (args : List Text) : parseVerb .console tag ("ORDER".toList :: w :: args) = verbRequest v tag args := by
  have hne : "ORDER".toList ≠ "MAP".toList := by decide
  simp only [parseVerb, if_neg hne, if_true, classifyWords, hw, verbRequest]
  cases classifyWords args with
  | inl code => rfl
  | inr as => simp [splitVerb, hv]

/-- The words of a verb command's line parse as its request. -/
theorem parseVerb_words {c : Instr} {l : Line} {v : Verb} {tag : Option Tag} {args : List Text}
    (h : c.verb? = some (l, v, tag, args)) : parseVerb l tag (v.words ++ args) = verbRequest v tag args := by
  cases c with
  | mapPut | mapDel | mapList =>
    cases h
    exact parseVerb_map (by decide) (by decide) tag args
  | orderPut | orderDel | orderMove | orderList =>
    cases h
    exact parseVerb_order (by decide) (by decide) tag args
  | alive | revert | hand | reboot =>
    cases h
    exact parseVerb_target (by decide) tag args
  | stat l =>
    cases h
    cases l with
    | console => exact parseVerb_console (by decide) (by decide) (by decide) tag args
    | target => exact parseVerb_target (by decide) tag args
  | abort | answer | boot | check | defaults | defects | get | go | hold | log | peek | poke | ports | probe | restart | save
  | seek | set | spent | stage | volume =>
    cases h
    exact parseVerb_console (by decide) (by decide) (by decide) tag args
  | _ => cases h

theorem words_head (v : Verb) : ∃ w ws, v.words = w :: ws ∧ w.head? ≠ some '#' := by
  cases v <;> exact ⟨_, _, rfl, by decide⟩

theorem parseWords_verb {c : Instr} {l : Line} {v : Verb} {tag : Option Tag} {args : List Text}
    (h : c.verb? = some (l, v, tag, args)) : parseWords l (lineWords tag (v.words ++ args)) = verbRequest v tag args := by
  rw [← parseVerb_words h]
  cases tag with
  | some t => exact parseWords_tag l t _
  | none =>
    obtain ⟨w, ws, he, hw⟩ := words_head v
    rw [lineWords, he]
    exact parseWords_noTag l hw _

/-- The line of a well-formed verb command is one that the receiver keeps. -/
theorem isLine_of_verb {c : Instr} {l : Line} {v : Verb} {tag : Option Tag} {args : List Text} (hw : c.wellFormed = true)
    (h : c.verb? = some (l, v, tag, args)) : isLine (lineWords tag (v.words ++ args)) = true := by
  cases c <;> cases h <;> exact hw

/-- Settles O6: the words of the line are those it was joined from, and they are the verb's. -/
theorem requestLinesReadBack : Obligations.RequestLinesReadBack := fun _ l _ _ _ hw h =>
  (parseLine_joinText (isLine_of_verb hw h) l).trans (parseWords_verb h)

/-! ### A line typed byte by byte (R170, R171) -/

/-- A character of a line that the receiver keeps whole: printable, and no letter that is folded. -/
def LineChar (c : Char) : Prop := 0x20 ≤ c.toNat ∧ c.toNat ≤ 0x7E ∧ ¬ (0x61 ≤ c.toNat ∧ c.toNat ≤ 0x7A)

theorem lineChar_of_wordChar {c : Char} (h : wordChar c = true) : LineChar c := by
  simp only [wordChar, Bool.and_eq_true, Bool.not_eq_true', Bool.and_eq_false_iff, decide_eq_true_eq, decide_eq_false_iff_not]
    at h
  exact ⟨by omega, h.1.2, by omega⟩

theorem lineChar_joinText {ws : List Text} (h : ∀ w ∈ ws, ∀ c ∈ w, LineChar c) : ∀ c ∈ joinText ws, LineChar c := by
  induction ws with
  | nil => nofun
  | cons w ws ih =>
    obtain ⟨hw, hws⟩ := List.forall_mem_cons.mp h
    cases ws with
    | nil => exact hw
    | cons x xs =>
      intro c hc
      rw [joinText] at hc
      · obtain hc | hc := List.mem_append.mp hc
        · exact hw c hc
        · obtain rfl | hc := List.mem_cons.mp hc
          · exact ⟨by decide, by decide, by decide⟩
          · exact ih hws c hc
      · nofun

theorem lineChar_of_isLine {ws : List Text} (h : isLine ws = true) : ∀ c ∈ joinText ws, LineChar c := by
  refine lineChar_joinText fun w hw c hc => lineChar_of_wordChar ?_
  simp only [isLine, Bool.and_eq_true, List.all_eq_true] at h
  have hword := h.1 w hw
  simp only [isWord, Bool.and_eq_true, List.all_eq_true] at hword
  exact hword.2 c hc

theorem toNat_ofNat_byte {n : Nat} (h : n < 256) : (Char.ofNat n).toNat = n := by
  have hv : n.isValidChar := .inl (by omega)
  simp [Char.ofNat, hv, Char.toNat, Char.ofNatAux]

/-- A byte that folds to a character of a line is one that the receiver keeps. -/
theorem byte_of_foldChar {b : Byte} (h : LineChar (foldChar b)) : 0x20 ≤ b.toNat ∧ b.toNat ≤ 0x7E := by
  have hb := b.isLt
  by_cases hl : 0x61 ≤ b.toNat ∧ b.toNat ≤ 0x7A
  · omega
  · rw [foldChar, if_neg hl] at h
    have hn := toNat_ofNat_byte hb
    obtain ⟨h1, h2, -⟩ := h
    rw [hn] at h1 h2
    exact ⟨h1, h2⟩

theorem buildLine_keep {b : Byte} {kept : Text} (hb : 0x20 ≤ b.toNat ∧ b.toNat ≤ 0x7E) (hl : kept.length < 80) :
    buildLine b ⟨kept, .nothing⟩ = (⟨kept ++ [foldChar b], .nothing⟩, none) := by
  have h0D : b ≠ 0x0D := by rintro rfl; exact absurd hb.1 (by decide)
  have h0A : b ≠ 0x0A := by rintro rfl; exact absurd hb.1 (by decide)
  have h08 : b ≠ 0x08 := by rintro rfl; exact absurd hb.1 (by decide)
  rw [buildLine, if_neg h0D, if_neg h0A, if_neg h08, if_pos hb, keepChar]
  dsimp only
  exact congrArg (·, none) (if_pos hl)

theorem runCommands_append (cs ds : List Instr) {s t : State} (h : runCommands cs s = .next t) :
    runCommands (cs ++ ds) s = runCommands ds t := by
  induction cs generalizing s with
  | nil =>
    cases h
    rfl
  | cons c cs ih =>
    rw [List.cons_append, runCommands]
    rw [runCommands] at h
    split at h
    · rw [ih h]
    · cases h
    · cases h

theorem setConsoleLine_self {p : Part} {l : Partial} (h : p.con.line = l) : setConsoleLine l p = p := by
  subst h
  rfl

theorem setTargetLine_self {p : Part} {l : Partial} (h : p.tgt.line = l) : setTargetLine l p = p := by
  subst h
  rfl

/-- The characters of a line typed on the console join the partial line. -/
theorem runCommands_console {bytes : List Byte} {kept : Text} {s : State} (hw : s.con.waitMarking = false)
    (hl : s.con.line = ⟨kept, .nothing⟩) (hb : ∀ b ∈ bytes, LineChar (foldChar b)) (hlen : kept.length + bytes.length ≤ 80) :
    runCommands (bytes.map (.receivedByte .console)) s =
      .next { s with toPart := setConsoleLine ⟨kept ++ bytes.map foldChar, .nothing⟩ s.toPart } := by
  induction bytes generalizing kept s with
  | nil =>
    rw [List.map_nil, List.map_nil, List.append_nil, setConsoleLine_self hl]
    rfl
  | cons b bytes ih =>
    obtain ⟨hb1, hbs⟩ := List.forall_mem_cons.mp hb
    rw [List.length_cons] at hlen
    have hkeep := buildLine_keep (kept := kept) (byte_of_foldChar hb1) (by omega)
    have hstep : exec (.receivedByte .console b) s =
        .next { s with toPart := setConsoleLine ⟨kept ++ [foldChar b], .nothing⟩ s.toPart } := by
      change s.on (receiveConsole b) = _
      rw [on_eq]
      simp only [receiveConsole, hw, hl, hkeep, Bool.false_eq_true, if_false]
    rw [List.map_cons, runCommands, hstep]
    refine (ih (s := { s with toPart := setConsoleLine ⟨kept ++ [foldChar b], .nothing⟩ s.toPart }) hw rfl hbs
      (by simp; omega)).trans ?_
    simp [setConsoleLine]

/-- The characters of a line typed on the open target line join the partial line. -/
theorem runCommands_target {bytes : List Byte} {kept : Text} {s : State} (ho : s.tgt.isOpen = true)
    (hw : s.tgt.waitMarking = false) (hl : s.tgt.line = ⟨kept, .nothing⟩) (hb : ∀ b ∈ bytes, LineChar (foldChar b))
    (hlen : kept.length + bytes.length ≤ 80) :
    runCommands (bytes.map (.receivedByte .target)) s =
      .next { s with toPart := setTargetLine ⟨kept ++ bytes.map foldChar, .nothing⟩ s.toPart } := by
  induction bytes generalizing kept s with
  | nil =>
    rw [List.map_nil, List.map_nil, List.append_nil, setTargetLine_self hl]
    rfl
  | cons b bytes ih =>
    obtain ⟨hb1, hbs⟩ := List.forall_mem_cons.mp hb
    rw [List.length_cons] at hlen
    have hkeep := buildLine_keep (kept := kept) (byte_of_foldChar hb1) (by omega)
    have hstep : exec (.receivedByte .target b) s =
        .next { s with toPart := setTargetLine ⟨kept ++ [foldChar b], .nothing⟩ s.toPart } := by
      change s.on (receiveTarget b) = _
      rw [on_eq]
      simp only [receiveTarget, ho, hw, hl, hkeep, Bool.true_eq_false, Bool.false_eq_true, or_self, if_false]
    rw [List.map_cons, runCommands, hstep]
    refine (ih (s := { s with toPart := setTargetLine ⟨kept ++ [foldChar b], .nothing⟩ s.toPart }) ho hw rfl hbs
      (by simp; omega)).trans ?_
    simp [setTargetLine]

/-- The words of a line, one of them not empty, are not spaces alone. -/
theorem joinText_not_blank {w : Text} {ws : List Text} (hne : w ≠ []) (hw : ∀ c ∈ w, c ≠ ' ') :
    ∃ c ∈ joinText (w :: ws), c ≠ ' ' := by
  obtain ⟨c, cs, rfl⟩ := List.exists_cons_of_ne_nil hne
  refine ⟨c, ?_, hw c (by simp)⟩
  cases ws with
  | nil => simp [joinText]
  | cons x xs => simp [joinText]

theorem lineWords_ne_nil (tag : Option Tag) (v : Verb) (args : List Text) : lineWords tag (v.words ++ args) ≠ [] := by
  obtain ⟨w, ws, he, -⟩ := words_head v
  cases tag <;> simp [lineWords, he]

/-- Settles O7: the typed characters make the partial line, 0D takes it as a line, and the line parses as the command's request. -/
theorem typedLineIsItsCommand : Obligations.TypedLineIsItsCommand := by
  intro c l v tag args bytes s hwf hv htext hstart
  have hline := isLine_of_verb hwf hv
  have hparse := requestLinesReadBack c l v tag args hwf hv
  have hchars : ∀ b ∈ bytes, LineChar (foldChar b) := fun b hb =>
    lineChar_of_isLine hline _ (by rw [← lineText, ← htext]; exact List.mem_map_of_mem hb)
  have hlen : bytes.length ≤ 80 := by
    simp only [isLine, Bool.and_eq_true, decide_eq_true_eq] at hline
    have := hline.2
    rwa [← lineText, ← htext, List.length_map] at this
  have hblank : ∃ x ∈ lineText tag (v.words ++ args), x ≠ ' ' := by
    obtain ⟨w, ws, he⟩ := List.exists_cons_of_ne_nil (lineWords_ne_nil tag v args)
    rw [lineText, he]
    obtain ⟨hne, hsp⟩ := words_of_isLine hline w (by simp [he])
    exact joinText_not_blank hne hsp
  have hfull := completedLine_text (l := ⟨lineText tag (v.words ++ args), .nothing⟩) rfl hblank
  rw [typedLine, List.map_append]
  obtain ⟨rfl, hq, hm, he⟩ | ⟨rfl, ht, hm, he⟩ := hstart
  · have hrun := runCommands_console (kept := []) hm he hchars (by simpa using hlen)
    rw [List.nil_append, htext] at hrun
    rw [runCommands_append _ _ hrun, exec_of_consoleVerb hv, on_eq]
    have hlast := receiveConsole_return_some (p := setConsoleLine ⟨lineText tag (v.words ++ args), .nothing⟩ s.toPart) hm hfull
    rw [offerConsole_quiet _ (by exact hq), takeConsoleLine, hparse] at hlast
    have hback : setConsoleLine emptyPartial (setConsoleLine ⟨lineText tag (v.words ++ args), .nothing⟩ s.toPart) = s.toPart := by
      rw [emptyPartial, ← he]
      rfl
    rw [hback] at hlast
    rw [consoleVerb, arriveConsole_idle hq.1 hq.2, ← hlast]
    rfl
  · obtain ⟨ho, ha, hl, hqueue⟩ := id ht
    have hrun := runCommands_target (kept := []) ho hm he hchars (by simpa using hlen)
    rw [List.nil_append, htext] at hrun
    rw [runCommands_append _ _ hrun, exec_of_targetVerb hv, on_eq]
    have hlast := receiveTarget_return_some (p := setTargetLine ⟨lineText tag (v.words ++ args), .nothing⟩ s.toPart) ho hm hfull
    rw [offerTarget_taken _ (by exact ht), takeTargetLine, hparse] at hlast
    have hback : setTargetLine emptyPartial (setTargetLine ⟨lineText tag (v.words ++ args), .nothing⟩ s.toPart) = s.toPart := by
      rw [emptyPartial, ← he]
      rfl
    rw [hback] at hlast
    rw [targetVerb, arriveTarget_idle ho ha hl hqueue, ← hlast]
    rfl

end Sys2Proof.Proofs

/-! PROOFS. Lines and records on the two serial lines: what RLN answers itself (R172 to R178), the receivers (R169 to R175), and the
transmitters (R180 to R185). -/

namespace Sys2Proof.Proofs

open Sys2Proof Sys2Proof.Machine

/-! ### A target-line reply with nothing waiting ahead of it (R185) -/

theorem handTarget_quiet {p : Part} (hq : p.tgt.queue = []) (i : TargetItem) :
    handTarget i p = { p with tgt := p.tgt.answered i } := by
  cases ht : p.tgt.tx with
  | none => simp [handTarget_free ht hq, Target.answered, ht, ← hq]
  | some j => simp [handTarget_busy ht, Target.answered, ht, hq]

theorem targetReply_quiet {p : Part} (ht : targetTaken p) (r : Record) : targetReply r p = targetAnswers r .nothing p :=
  handTarget_quiet ht.2.2.2 _

/-! ### Requests refused for their words or by mode (R139, R141, R152, R178) -/

section Refused

variable {c : Instr} {v : Verb} {tag : Option Tag} {args : List Text} {code : Nat} {s : State}

theorem yields_badWord_console (hv : c.verb? = some (.console, v, tag, args)) (ha : classifyWords args = .inl code)
    (hq : consoleQuiet s.toPart) : Yields c s (refuses code tag s.toPart) := by
  have h : Yields c s (consoleVerb v tag args s.toPart) := exec_of_consoleVerb hv s
  rwa [consoleVerb, arriveConsole_idle hq.1 hq.2, verbRequest, ha, followConsole, refuse_quiet hq] at h

theorem yields_badWord_target (hv : c.verb? = some (.target, v, tag, args)) (ha : classifyWords args = .inl code)
    (ht : targetTaken s.toPart) : Yields c s (targetAnswers (refusal code tag) .nothing s.toPart) := by
  have h : Yields c s (targetVerb v tag args s.toPart) := exec_of_targetVerb hv s
  obtain ⟨ho, hacc, hl, hq⟩ := id ht
  rwa [targetVerb, arriveTarget_idle ho hacc hl hq, verbRequest, ha, followTarget, targetReply_quiet ht] at h

/-- A request that SUP does not take is answered with 120. -/
theorem yields_refused {as : List Arg} (hv : c.verb? = some (.console, v, tag, args)) (ha : classifyWords args = .inr as)
    (hq : consoleQuiet s.toPart)
    (h : s.sup.mode = .init ∨ s.sup.restartPending = true ∨ (v ≠ .go ∧ admits v s.sup.mode = false)) :
    Yields c s (refuses 120 tag s.toPart) := by
  have ht := yields_takeConsole (exec_of_consoleVerb hv s) ha hq
  rwa [takeConsole_refused h, refuse_quiet hq] at ht

/-- No command is ORDER or MAP with another second word. -/
theorem verb?_named {l : Line} (hv : c.verb? = some (l, v, tag, args)) : v ≠ .mapOther ∧ v ≠ .orderOther := by
  cases c <;> cases hv <;> exact ⟨nofun, nofun⟩

end Refused

/-- The verbs that AUTO admits (R141). -/
theorem admits_auto_eq_false {v : Verb} (phase : AutoPhase) (hm : v ≠ .mapOther) (ho : v ≠ .orderOther)
    (h : v ∉ [.stat, .log, .spent, .defects, .get, .mapList, .restart, .ports, .orderList, .answer, .abort]) :
    admits v (.auto phase) = false := by
  cases v with
  | mapOther => exact absurd rfl hm
  | orderOther => exact absurd rfl ho
  | stat | log | spent | defects | get | mapList | restart | ports | orderList | answer | abort => exact absurd (by simp) h
  | _ => rfl

theorem admits_targetRun_eq_false {v : Verb} (phase : WindowPhase) (hm : v ≠ .mapOther) (ho : v ≠ .orderOther)
    (h : v ∉ [.stat, .log, .spent, .defects, .get, .mapList, .restart, .ports, .orderList, .hold]) :
    admits v (.targetRun phase) = false := by
  cases v with
  | mapOther => exact absurd rfl hm
  | orderOther => exact absurd rfl ho
  | stat | log | spent | defects | get | mapList | restart | ports | orderList | hold => exact absurd (by simp) h
  | _ => rfl

theorem admits_halted_eq_false {v : Verb} (reason : HaltReason) (hm : v ≠ .mapOther)
    (h : v ∉ [.stat, .log, .spent, .defects, .get, .mapList, .restart]) : admits v (.halted reason) = false := by
  cases v with
  | mapOther => exact absurd rfl hm
  | stat | log | spent | defects | get | mapList | restart => exact absurd (by simp) h
  | _ => rfl

theorem admits_manual_eq_false {v : Verb} {busy : Option SlotVerb} (h : v = .answer ∨ v = .hold ∨ (v = .abort ∧ busy = none)) :
    admits v (.manual busy) = false := by
  obtain rfl | rfl | ⟨rfl, rfl⟩ := h <;> rfl

/-- Settles O3: the words are judged before SUP, and SUP before the verb's owner. -/
theorem refusedRequestsOnlyReply : Obligations.RefusedRequestsOnlyReply := by
  intro c l v tag args s hv
  obtain ⟨hmap, horder⟩ := verb?_named hv
  refine ⟨fun code ha => ⟨?_, ?_⟩, ?_⟩
  · rintro rfl hq
    exact yields_badWord_console hv ha hq
  · rintro rfl ht
    exact yields_badWord_target hv ha ht
  · rintro as ha rfl hq
    refine ⟨fun h => yields_refused hv ha hq (h.imp id .inl), fun hgo => ?_⟩
    have hno : admits v s.sup.mode = false → Yields c s (refuses 120 tag s.toPart) := fun h =>
      yields_refused hv ha hq (.inr (.inr ⟨hgo, h⟩))
    refine ⟨fun phase hm h => hno ?_, fun busy hm h => hno ?_, fun phase hm h => hno ?_, fun reason hm h => hno ?_⟩
    · rw [hm]
      exact admits_auto_eq_false phase hmap horder h
    · rw [hm]
      exact admits_manual_eq_false h
    · rw [hm]
      exact admits_targetRun_eq_false phase hmap horder h
    · rw [hm]
      exact admits_halted_eq_false reason hmap h

/-! ### Lines that RLN answers itself (R172 to R176) -/

theorem parseVerb_unknown {l : Line} {tag : Option Tag} {ws : List Text} (h : unknownWords l tag ws = true) :
    parseVerb l tag ws = .refused 110 tag := by
  cases ws with
  | nil => rfl
  | cons w ws =>
    simp only [unknownWords, Bool.and_eq_true, Bool.not_eq_true'] at h
    obtain ⟨hk, -⟩ := h
    cases l with
    | console =>
      simp only [knownVerb, Bool.or_eq_false_iff, decide_eq_false_iff_not, Option.isSome_eq_false_iff, Option.isNone_iff_eq_none]
        at hk
      simp only [parseVerb, hk.1.1, hk.1.2, hk.2, if_false, Option.map_none]
    | target =>
      simp only [knownVerb, Option.isSome_eq_false_iff, Option.isNone_iff_eq_none] at hk
      simp [parseVerb, hk]

/-- A line with an unknown verb. -/
theorem parseWords_unknown {l : Line} {tag : Option Tag} {ws : List Text} (h : unknownWords l tag ws = true) :
    parseWords l (lineWords tag ws) = .refused 110 tag := by
  cases tag with
  | some t => exact (parseWords_tag l t ws).trans (parseVerb_unknown h)
  | none =>
    cases ws with
    | nil => cases h
    | cons w ws =>
      have hw : w.head? ≠ some '#' := by
        simp only [unknownWords, Bool.and_eq_true] at h
        simpa using h.2
      exact (parseWords_noTag l hw ws).trans (parseVerb_unknown h)

theorem parseWords_malformedTag {l : Line} {rest : Text} (h : parseTag rest = none) (ws : List Text) :
    parseWords l (('#' :: rest) :: ws) = .refused 111 none := by
  rw [parseWords, h]

/-- A line that RLN answers itself: taken or offered as its kind, and answered with the record when it is taken. -/
def AnsweredLine (c : Instr) (l : Line) (r : Record) (s : State) : Prop :=
  (l = .console ∧ ∃ take q, Yields c s (arriveConsole take q s.toPart) ∧ take s.toPart = replyRecord r s.toPart) ∨
    (l = .target ∧ ∃ take q, Yields c s (arriveTarget take q s.toPart) ∧ take s.toPart = targetReply r s.toPart)

theorem answeredLine_words {c : Instr} {l : Line} {ws : List Text} {code : Nat} {tag : Option Tag} {s : State}
    (hx : exec c s = s.on (arriveWords l ws)) (hp : parseWords l ws = .refused code tag) :
    AnsweredLine c l (refusal code tag) s := by
  cases l with
  | console => exact .inl ⟨rfl, followConsole (parseWords .console ws), _, hx, by rw [hp]; rfl⟩
  | target => exact .inr ⟨rfl, followTarget (parseWords .target ws), _, hx, by rw [hp]; rfl⟩

theorem answeredLine_of_rln {c : Instr} {l : Line} {r : Record} {s : State} (hw : c.wellFormed = true)
    (h : (c = .badLine l ∧ r = refusal 102 none) ∨ (c = .lineTooLong l ∧ r = refusal 101 none) ∨
      (∃ tag ws, c = .unknownVerb l tag ws ∧ r = refusal 110 tag) ∨
      ∃ rest ws, c = .malformedTag l rest ws ∧ r = refusal 111 none) : AnsweredLine c l r s := by
  obtain ⟨rfl, rfl⟩ | ⟨rfl, rfl⟩ | ⟨tag, ws, rfl, rfl⟩ | ⟨rest, ws, rfl, rfl⟩ := h
  · cases l with
    | console => exact .inl ⟨rfl, takeConsoleLine .bad, .bad, rfl, rfl⟩
    | target => exact .inr ⟨rfl, takeTargetLine .bad, .bad, rfl, rfl⟩
  · cases l with
    | console => exact .inl ⟨rfl, takeConsoleLine .tooLong, .tooLong, rfl, rfl⟩
    | target => exact .inr ⟨rfl, takeTargetLine .tooLong, .tooLong, rfl, rfl⟩
  · simp only [Instr.wellFormed, Bool.and_eq_true] at hw
    exact answeredLine_words rfl (parseWords_unknown hw.2)
  · simp only [Instr.wellFormed, Bool.and_eq_true, Option.isNone_iff_eq_none] at hw
    exact answeredLine_words rfl (parseWords_malformedTag hw.2 ws)

theorem arriveConsole_full {p : Part} (hl : p.con.lines.length = 2) (take : Part → Part) (q : QueuedLine) :
    arriveConsole take q p = raise 105 none [] p := by
  rw [arriveConsole, if_neg (by rintro ⟨h, -⟩; rw [h] at hl; cases hl), offerConsole_full q (Nat.le_of_eq hl.symm)]

theorem arriveTarget_full {p : Part} (ho : p.tgt.isOpen = true) (hl : p.tgt.lines.length = 2) (take : Part → Part)
    (q : QueuedLine) : arriveTarget take q p = raise 106 none [] p := by
  rw [arriveTarget, if_neg (by simp [ho]), if_neg (by rintro ⟨h, -⟩; rw [h] at hl; cases hl), offerTarget_full q (Nat.le_of_eq hl.symm)]

/-- Settles O4: the kind or the words of the line give its refusal, and the queue decides whether it is taken. -/
theorem linesThatRlnAnswers : Obligations.LinesThatRlnAnswers := by
  intro c l r s hw h
  obtain ⟨rfl, take, q, hy, ht⟩ | ⟨rfl, take, q, hy, ht⟩ := answeredLine_of_rln (s := s) hw h
  · refine ⟨fun _ hq => ?_, fun _ hl => ?_, nofun, nofun, nofun⟩
    · rwa [arriveConsole_idle hq.1 hq.2, ht, replyRecord_quiet hq] at hy
    · rwa [arriveConsole_full hl] at hy
  · refine ⟨nofun, nofun, fun _ hq => ?_, fun _ ho hl => ?_, fun _ ho => ?_⟩
    · obtain ⟨ho, ha, hl, hqueue⟩ := id hq
      rwa [arriveTarget_idle ho ha hl hqueue, ht, targetReply_quiet hq] at hy
    · rwa [arriveTarget_full ho hl] at hy
    · rwa [arriveTarget_closed ho] at hy

/-! ### Received bytes (R169, R170, R175) -/

section Bytes

variable {b : Byte} {l : Partial}

theorem buildLine_marked (hm : l.mark ≠ .nothing) (hb : b ≠ 0x0D) : buildLine b l = (l, none) := by
  have hk : keepChar (foldChar b) l = l := by
    unfold keepChar
    split
    · exact absurd ‹_› hm
    · rfl
  have hs : spoil l = l := by
    unfold spoil
    split
    · exact absurd ‹_› hm
    · rfl
  have hd : backspace l = l := by
    unfold backspace
    split
    · exact absurd ‹_› hm
    · rfl
  rw [buildLine, if_neg hb, hk, hs, hd]
  simp

theorem buildLine_lineFeed : buildLine 0x0A l = (l, none) := rfl

theorem buildLine_backspace (hm : l.mark = .nothing) : buildLine 0x08 l = ({ l with kept := l.kept.dropLast }, none) := by
  change (backspace l, none) = _
  rw [backspace, hm]

theorem buildLine_character (h1 : 0x20 ≤ b.toNat) (h2 : b.toNat ≤ 0x7E) : buildLine b l = (keepChar (foldChar b) l, none) := by
  have h0D : b ≠ 0x0D := by rintro rfl; exact absurd h1 (by decide)
  have h0A : b ≠ 0x0A := by rintro rfl; exact absurd h1 (by decide)
  have h08 : b ≠ 0x08 := by rintro rfl; exact absurd h1 (by decide)
  rw [buildLine, if_neg h0D, if_neg h0A, if_neg h08, if_pos ⟨h1, h2⟩]

theorem keepChar_room (hm : l.mark = .nothing) (hl : l.kept.length < 80) (c : Char) :
    keepChar c l = { l with kept := l.kept ++ [c] } := by
  unfold keepChar
  rw [hm]
  exact if_pos hl

theorem keepChar_full (hm : l.mark = .nothing) (hl : 80 ≤ l.kept.length) (c : Char) : keepChar c l = ⟨[], .tooLong⟩ := by
  unfold keepChar
  rw [hm]
  exact if_neg (Nat.not_lt.mpr hl)

theorem spoil_unmarked (hm : l.mark = .nothing) : spoil l = ⟨[], .bad⟩ := by rw [spoil, hm]

theorem spoil_marked (hm : l.mark ≠ .nothing) : spoil l = l := by
  unfold spoil
  split
  · exact absurd ‹_› hm
  · rfl

theorem buildLine_spoiled (hb : b.toNat < 0x20 ∨ 0x7E < b.toNat) (h08 : b ≠ 0x08) (h0A : b ≠ 0x0A) (h0D : b ≠ 0x0D) :
    buildLine b l = (spoil l, none) := by
  rw [buildLine, if_neg h0D, if_neg h0A, if_neg h08, if_neg (by omega)]

end Bytes

/-- How a line's receiver takes bytes: its partial line, whether it waits for marking, and how a partial line is put back. -/
structure Receiver (l : Line) (s : State) (line : Partial) (waits : Bool) (put : Partial → Part) : Prop where
  waiting : waits = true → ∀ b, receive l b s.toPart = s.toPart ∧ frameError l s.toPart = s.toPart
  received : waits = false → ∀ b x, buildLine b line = (x, none) → receive l b s.toPart = put x
  framing : waits = false → frameError l s.toPart = put (spoil line)
  same : put line = s.toPart

theorem receiver_console (s : State) : Receiver .console s s.con.line s.con.waitMarking (setConsoleLine · s.toPart) where
  waiting h b := ⟨if_pos h, if_pos h⟩
  received h b x hb := by
    change receiveConsole b s.toPart = _
    simp only [receiveConsole, h, hb, Bool.false_eq_true, if_false]
  framing h := if_neg (by simp [h])
  same := rfl

theorem receiver_target {s : State} (ho : s.tgt.isOpen = true) :
    Receiver .target s s.tgt.line s.tgt.waitMarking (setTargetLine · s.toPart) where
  waiting h b := ⟨if_pos (.inr h), if_pos (.inr h)⟩
  received h b x hb := by
    change receiveTarget b s.toPart = _
    simp only [receiveTarget, ho, h, hb, Bool.true_eq_false, Bool.false_eq_true, or_self, if_false]
  framing h := if_neg (by simp [h, ho])
  same := rfl

/-- Settles O8, by the byte's class and the mark of the partial line. -/
theorem receivedBytesBuildTheLine : Obligations.ReceivedBytesBuildTheLine := by
  intro l b s line waits put hl
  have hr : Receiver l s line waits put := by
    obtain ⟨rfl, rfl, rfl, rfl⟩ | ⟨rfl, ho, rfl, rfl, rfl⟩ := hl
    · exact receiver_console s
    · exact receiver_target ho
  have hbyte : ∀ {p}, receive l b s.toPart = p → Yields (.receivedByte l b) s p := by
    rintro _ rfl
    rfl
  have herror : ∀ {p}, frameError l s.toPart = p → Yields (.framingError l) s p := by
    rintro _ rfl
    rfl
  refine ⟨fun hw => ⟨hbyte (hr.waiting hw b).1, herror (hr.waiting hw b).2⟩, fun hw => ⟨fun hm => ⟨fun h0D => ?_, ?_⟩, fun hm => ?_⟩⟩
  · exact hbyte ((hr.received hw b _ (buildLine_marked hm h0D)).trans hr.same)
  · exact herror ((hr.framing hw).trans (by rw [spoil_marked hm, hr.same]))
  · refine ⟨?_, ?_, fun h1 h2 hlen => ?_, fun h1 h2 hlen => ?_, fun hb h08 h0A h0D => ?_, ?_⟩
    · rintro rfl
      exact hbyte ((hr.received hw _ _ buildLine_lineFeed).trans hr.same)
    · rintro rfl
      exact hbyte (hr.received hw _ _ (buildLine_backspace hm))
    · refine hbyte (hr.received hw _ _ ?_)
      rw [buildLine_character h1 h2, keepChar_room hm hlen]
      rfl
    · refine hbyte (hr.received hw _ _ ?_)
      rw [buildLine_character h1 h2, keepChar_full hm hlen]
    · refine hbyte (hr.received hw _ _ ?_)
      rw [buildLine_spoiled hb h08 h0A h0D, spoil_unmarked hm]
    · exact herror ((hr.framing hw).trans (by rw [spoil_unmarked hm]))

/-- Settles O13, by whether the target line is open. -/
theorem markingAndSpacing : Obligations.MarkingAndSpacing := by
  intro s
  have h : Yields .targetLineSpacingHeld s (targetSpacing s.toPart) := rfl
  refine ⟨rfl, rfl, fun ho => ?_, fun ho => ?_⟩
  · rwa [targetSpacing, if_pos ho] at h
  · rwa [targetSpacing, if_neg (by simp [ho])] at h

/-! ### Notices and the arbiter (R180, R182) -/

/-- Settles O14, by the transmitter and the room in the notice queue. -/
theorem noticesJoinTheQueue : Obligations.NoticesJoinTheQueue := by
  intro code tag fields p
  refine ⟨fun ht hl => ?_, fun ht hl => ?_, fun ht hr hq hn hlost => ?_⟩
  · obtain ⟨i, hi⟩ := Option.ne_none_iff_exists'.mp ht
    rw [raise_busy hi, queueNotice, if_pos (by exact hl)]
    rfl
  · obtain ⟨i, hi⟩ := Option.ne_none_iff_exists'.mp ht
    rw [raise_busy hi, queueNotice, if_neg (by exact Nat.not_lt.mpr hl)]
    rfl
  · have hroom : p.con.notices.length < Config.noticeCapacity := by
      rw [hn]
      decide
    rw [raise, queueNotice, if_pos hroom]
    simp [arbitrateConsole, reportLost, ht, hr, hq, hn, hlost, notice]

/-- The choice of a transmitter that has become free, with at most 16 notices waiting (R180, R182). -/
theorem arbitrate_freed {c : Console} (hn : c.notices.length ≤ 16) : arbitrateConsole { c with tx := none } = c.nextSent := by
  unfold arbitrateConsole Console.nextSent
  dsimp only
  cases c.replies with
  | cons r rest => rfl
  | nil =>
    cases c.question with
    | some q => rfl
    | none =>
      cases hx : c.notices with
      | nil => rfl
      | cons n rest =>
        have hroom : rest.length < Config.noticeCapacity := by
          rw [hx, List.length_cons] at hn
          exact hn
        by_cases hl : c.lost = 0
        · simp [reportLost, hl]
        · simp [reportLost, hl, hroom, Nat.pos_of_ne_zero hl, notice]

theorem freeConsole_eq {p : Part} (hn : p.con.notices.length ≤ 16) : freeConsole p = { p with con := p.con.nextSent } := by
  rw [freeConsole, arbitrate_freed hn]

/-- With no line waiting nothing is taken. -/
theorem pumpConsole_nil {p : Part} (hl : p.con.lines = []) : pumpConsole p = p := by
  rw [pumpConsole, hl]
  rfl

theorem nextSent_lines (c : Console) : c.nextSent.lines = c.lines := by
  unfold Console.nextSent
  split <;> rfl

theorem restartAfter_unmarked {i : ConsoleItem} (h : i.restart = false) (p : Part) : restartAfter i p = p :=
  if_neg (by simp [h])

theorem switchAfter_unmarked {i : ConsoleItem} (h : i.rateSwitch = false) (p : Part) : switchAfter i p = p :=
  if_neg (by simp [h])

/-- The end of a console record with nothing waiting for its last character. -/
theorem consoleSent_unmarked {p : Part} {i : ConsoleItem} (ht : p.con.tx = some i) (hr : i.restart = false)
    (hs : i.rateSwitch = false) : consoleSent p = pumpConsole (freeConsole p) := by
  rw [consoleSent_of_tx ht, restartAfter_unmarked hr, switchAfter_unmarked hs]

theorem consoleSent_free {p : Part} (hl : p.con.lines = []) (hn : p.con.notices.length ≤ 16) :
    pumpConsole (freeConsole p) = { p with con := p.con.nextSent } := by
  rw [freeConsole_eq hn, pumpConsole_nil]
  exact (nextSent_lines _).trans hl

/-- The oldest reply begins to be sent, whatever else waits. -/
theorem freeConsole_reply {p : Part} {r : ConsoleItem} {rest : List ConsoleItem} (hr : p.con.replies = r :: rest) :
    freeConsole p = { p with con := { p.con with tx := some r, replies := rest } } := by
  rw [freeConsole, arbitrateConsole_reply (c := { p.con with tx := none }) rfl hr]

/-- The last reply begins to be sent and the waiting line is taken. -/
theorem pump_freeConsole_line {p : Part} {q : QueuedLine} {r : ConsoleItem} (hl : p.con.lines = [q]) (hr : p.con.replies = [r]) :
    pumpConsole (freeConsole p) =
      takeConsoleLine q { p with con := { p.con with tx := some r, replies := [], lines := [] } } := by
  rw [freeConsole_reply hr]
  exact pumpConsole_single q hl rfl

/-- Settles O15: the arbiter's choice, and the pump of the line queue behind it. -/
theorem arbiterChoosesTheNextRecord : Obligations.ArbiterChoosesTheNextRecord := by
  intro s i ht hr hs
  have h : Yields .consoleRecordSent s (consoleSent s.toPart) := rfl
  rw [consoleSent_unmarked ht hr hs] at h
  refine ⟨fun hl => ⟨fun r rest hrep => ?_, fun hrep => ⟨fun q hq => ?_, fun hq => ⟨fun n rest hn hlen => ?_, fun hn => ?_⟩⟩⟩, ?_⟩
  · rwa [freeConsole_reply hrep, pumpConsole_nil (by exact hl)] at h
  · have hfree : freeConsole s.toPart = { s.toPart with con := { s.con with tx := some { record := some q }, question := none } } := by
      simp [freeConsole, arbitrateConsole, hrep, hq]
    rwa [hfree, pumpConsole_nil (by exact hl)] at h
  · rw [consoleSent_free hl hlen] at h
    simpa only [Console.nextSent, hrep, hq, hn] using h
  · rw [consoleSent_free hl (by simp [hn])] at h
    simpa only [Console.nextSent, hrep, hq, hn] using h
  · intro q r hl hrep
    rwa [pump_freeConsole_line hl hrep] at h

/-! ### Target-line records (R174, R185) -/

/-- The end of a target-line record that nothing follows. -/
theorem targetSent_plain {p : Part} {i : TargetItem} (ht : p.tgt.tx = some i) (ha : i.after = .nothing) :
    targetSent p = pumpTarget (freeTarget p) := by
  simp only [targetSent, ht, ha]

theorem targetSent_reboot {p : Part} {i : TargetItem} (ht : p.tgt.tx = some i) (ha : i.after = .reboot) :
    targetSent p = takeRestart p := by
  simp only [targetSent, ht, ha]

theorem targetSent_revert {p : Part} {i : TargetItem} (ht : p.tgt.tx = some i) (ha : i.after = .revert) :
    targetSent p = failWindow .reverted p := by
  simp only [targetSent, ht, ha]

theorem freeTarget_next {p : Part} {r : TargetItem} {rest : List TargetItem} (hq : p.tgt.queue = r :: rest) :
    freeTarget p = { p with tgt := { p.tgt with tx := some r, queue := rest } } := by
  simp [freeTarget, startTarget, hq]

theorem freeTarget_nil {p : Part} (hq : p.tgt.queue = []) : freeTarget p = { p with tgt := { p.tgt with tx := none } } := by
  simp [freeTarget, startTarget, hq]

theorem pumpTarget_nil {p : Part} (hl : p.tgt.lines = []) : pumpTarget p = p := by
  rw [pumpTarget, hl]
  rfl

/-- A RESTART, with its console (R55, R187, R189). -/
theorem takeRestart_eq (p : Part) : takeRestart p = restarted (restartedConsole p) p := by
  unfold takeRestart restarted restartedConsole withdrawQuestion unmarkRestart
  cases hq : p.sre.question with
  | none => rfl
  | some q => rfl

/-- Settles O17: the queue's next record, then the waiting line as RLU takes requests or not. -/
theorem targetRecordsFollowInOrder : Obligations.TargetRecordsFollowInOrder := by
  intro s i ht
  have h : Yields .targetRecordSent s (targetSent s.toPart) := rfl
  refine ⟨fun ha => ?_, fun ha => ?_⟩
  · rw [targetSent_plain ht ha] at h
    refine ⟨fun r rest hq hl => ?_, fun hq hl => ?_, fun q r hl hq => ⟨fun ho hacc => ?_, fun hacc => ?_⟩⟩
    · rwa [freeTarget_next hq, pumpTarget_nil (by exact hl)] at h
    · rwa [freeTarget_nil hq, pumpTarget_nil (by exact hl)] at h
    · rw [freeTarget_next hq] at h
      rwa [pumpTarget_single (p := { s.toPart with tgt := { s.tgt with tx := some r, queue := [] } }) q hl
        (targetTakes_of_empty ho hacc rfl)] at h
    · rw [freeTarget_next hq] at h
      rwa [pumpTarget_of_not_takes (p := { s.toPart with tgt := { s.tgt with tx := some r, queue := [] } })
        (targetTakes_eq_false (.inr hacc))] at h
  · rwa [targetSent_reboot ht ha, takeRestart_eq] at h

/-! ### RESTART and the rate switch (R152, R183, R187) -/

theorem admits_restart {m : Mode} (h : m ≠ .init) : admits .restart m = true := by
  cases m with
  | init => exact absurd rfl h
  | _ => rfl

theorem restartVerb_args (tag : Option Tag) {args : List Arg} (h : args ≠ []) (p : Part) :
    restartVerb tag args p = refuse 111 tag p := by
  cases args with
  | nil => exact absurd rfl h
  | cons a as => rfl

/-- A RESTART keeps the lines, and the replies but for the mark of a RESTART (R187). -/
theorem restartedConsole_frame (p : Part) :
    (restartedConsole p).lines = p.con.lines ∧
      (restartedConsole p).replies = p.con.replies.map (fun i => { i with restart := false }) ∨ p.con.tx = none := by
  cases ht : p.con.tx with
  | none => exact .inr rfl
  | some i =>
    refine .inl ?_
    unfold restartedConsole
    dsimp only
    split
    · exact ⟨rfl, rfl⟩
    · rw [raise_busy (i := i) (by exact ht)]
      unfold queueNotice
      split <;> exact ⟨rfl, rfl⟩

theorem queueNotice_length {n : Record} {c : Console} (h : c.notices.length ≤ 16) : (queueNotice n c).notices.length ≤ 16 := by
  unfold queueNotice
  split
  · rename_i hl
    rw [List.length_append]
    exact hl
  · exact h

theorem restartedConsole_notices {p : Part} {i : ConsoleItem} (ht : p.con.tx = some i) (hn : p.con.notices.length ≤ 16) :
    (restartedConsole p).notices.length ≤ 16 := by
  unfold restartedConsole
  dsimp only
  split
  · exact hn
  · rw [raise_busy (i := i) (by exact ht)]
    exact queueNotice_length (c := { p.con with question := none }) hn

/-- The end of the record that a RESTART waits for. -/
theorem consoleSent_restart {p : Part} {i : ConsoleItem} (ht : p.con.tx = some i) (hr : i.restart = true)
    (hp : p.sup.restartPending = true) (hs : i.rateSwitch = false) :
    consoleSent p = pumpConsole (freeConsole (restarted (restartedConsole p) p)) := by
  rw [consoleSent_of_tx ht, restartAfter, if_pos ⟨hr, hp⟩, switchAfter_unmarked hs, takeRestart_eq]

/-- Settles O16: the marks on the record that has left, then the arbiter and the pump. -/
theorem restartAndRateSwitchFollowTheirReply : Obligations.RestartAndRateSwitchFollowTheirReply := by
  refine ⟨fun tag args as s ha ht => ?_, fun s i htx hr hp hs hn => ?_, fun s i rate htx hr hs hrate hn hl => ?_⟩
  · have h : Yields (.restart tag args) s (restartVerb tag as s.toPart) :=
      yields_owner (v := .restart) rfl ha ht (admits_restart ht.2.1)
    refine ⟨?_, fun hne => ?_⟩
    · rintro rfl
      have he := reply_quiet (p := { s.toPart with sup := { s.sup with restartPending := true } }) ht.1
        { record := some (accepted 0 tag []), restart := true }
      rwa [restartVerb, he] at h
    · rwa [restartVerb_args tag hne, refuse_quiet ht.1] at h
  · have h : Yields .consoleRecordSent s (consoleSent s.toPart) := rfl
    rw [consoleSent_restart htx hr hp hs] at h
    obtain ⟨hlines, hreplies⟩ := (restartedConsole_frame s.toPart).resolve_right (by rw [htx]; nofun)
    refine ⟨fun hl => ?_, fun q r hl hrep => ?_⟩
    · rwa [consoleSent_free (p := restarted (restartedConsole s.toPart) s.toPart) (hlines.trans hl)
        (restartedConsole_notices htx hn)] at h
    · rw [pump_freeConsole_line (p := restarted (restartedConsole s.toPart) s.toPart) (hlines.trans hl)
        (hreplies.trans (by rw [hrep]; rfl))] at h
      exact h
  · have h : Yields .consoleRecordSent s (consoleSent s.toPart) := rfl
    have hsw : switchAfter i s.toPart = { s.toPart with con := { s.con with rate := rate, pendingRate := none } } := by
      rw [switchAfter, if_pos hs, switchRate, hrate]
    rwa [consoleSent_of_tx htx, restartAfter_unmarked hr, hsw, consoleSent_free (by exact hl) (by exact hn)] at h

end Sys2Proof.Proofs

/-! PROOFS. Verbs that report: the listing verbs, GET and STAT (R20, R42, R60, R71, R97, R126, R151, R159). -/

namespace Sys2Proof.Proofs

open Sys2Proof Sys2Proof.Machine

/-! ### The lines of the listings -/

theorem defectLines_eq (m : Mck) :
    defectLines m =
      (m.defects.map fun d =>
          [.num d.address, .word d.kind.name] ++
            (match d.expected with | some w => [.word "EXPECT", .num w.toNat] | none => []) ++
            (match d.observed with | some w => [.word "SEEN", .num w.toNat] | none => []) ++ [.word "PASS", .num d.pass]) ++
        [[.word "DROPPED", .num m.dropped]] := by
  refine congrArg (· ++ _) (List.map_congr_left fun d _ => ?_)
  cases d.expected <;> cases d.observed <;> rfl

theorem mapLines_eq (p : Part) :
    mapLines p =
      Idx.all.filterMap fun i => (p.sst.settings.map.get i).map fun r =>
        [.num i.num, .num r.base, .num r.size, .word (p.mmp.health.get i).name] ++
          (if r.load then [.word "LOAD"] else []) ++ (if r.check then [.word "CHECK"] else []) ++
          (if r.preserve then [.word "PRESERVE"] else []) := by
  unfold mapLines occupied
  induction Idx.all with
  | nil => rfl
  | cons i is ih =>
    cases hi : p.sst.settings.map.get i with
    | none => simpa [hi] using ih
    | some r =>
      simp only [List.filter_cons, hi, Option.isSome_some, if_true, List.flatMap_cons, List.filterMap_cons, Option.map_some, ih]
      simp [Region.attributeFields]

/-- The lines of a list numbered from k on. -/
theorem mapIdx_from {α β : Type} {f : Nat → α → β} {g : Nat → List α → List β} (hnil : ∀ k, g k [] = [])
    (hcons : ∀ k x xs, g k (x :: xs) = f k x :: g (k + 1) xs) (k : Nat) (xs : List α) :
    g k xs = xs.mapIdx fun i x => f (k + i) x := by
  induction xs generalizing k with
  | nil => simp [hnil]
  | cons x xs ih =>
    rw [hcons, ih, List.mapIdx_cons]
    simp [Nat.add_assoc, Nat.add_comm 1]

theorem orderLines_eq (order : List BootEntry) :
    orderLines 1 order =
      order.mapIdx fun k e =>
        [.num (k + 1), .num e.port.num, .num e.first, .num e.last, .num e.tries, .word e.policy.name,
          .word (if e.lastResort then "YES" else "NO")] := by
  rw [mapIdx_from (f := orderLine) (g := orderLines) (fun _ => rfl) (fun _ _ _ => rfl)]
  simp only [Nat.add_comm 1]
  rfl

theorem unitLines_eq (port : Port) (units : List UnitRecord) :
    unitLines port 0 units = units.mapIdx fun u r => unitLine port u r := by
  rw [mapIdx_from (f := unitLine port) (g := unitLines port) (fun _ => rfl) (fun _ _ _ => rfl)]
  simp only [Nat.zero_add]

/-- A listing verb that the mode admits. -/
theorem admits_report {m : Mode} (h : m ≠ .init) :
    admits .spent m = true ∧ admits .defects m = true ∧ admits .mapList m = true ∧ admits .get m = true ∧
      admits .stat m = true := by
  cases m with
  | init => exact absurd rfl h
  | _ => exact ⟨rfl, rfl, rfl, rfl, rfl⟩

theorem admits_tables {m : Mode} (h : m ≠ .init) (hh : ∀ reason, m ≠ .halted reason) :
    admits .ports m = true ∧ admits .orderList m = true := by
  cases m with
  | init => exact absurd rfl h
  | halted r => exact absurd rfl (hh r)
  | _ => exact ⟨rfl, rfl⟩

theorem lists_congr {verb : Option Tag → List Text → Instr} {lines lines' : List (List Field)} {s : State}
    (h : Lists verb lines s) (he : lines = lines') : Lists verb lines' s := he ▸ h

/-- Settles O19: each is a listing verb that its modes take, with its lines written out. -/
theorem listingVerbsChangeNothing : Obligations.ListingVerbsChangeNothing := by
  intro s ht
  obtain ⟨hspent, hdefects, hmap, -, -⟩ := admits_report ht.2.1
  refine ⟨?_, ?_, ?_, fun hh => ⟨?_, fun t hp => ?_⟩⟩
  · exact lists_of_listVerb (v := .spent) (fun _ _ => rfl) rfl ht hspent
  · exact lists_congr (lists_of_listVerb (v := .defects) (fun _ _ => rfl) rfl ht hdefects) (defectLines_eq _)
  · exact lists_congr (lists_of_listVerb (v := .mapList) (fun _ _ => rfl) rfl ht hmap) (mapLines_eq _)
  · exact lists_congr (lists_of_listVerb (v := .orderList) (fun _ _ => rfl) rfl ht (admits_tables ht.2.1 hh).2)
      (orderLines_eq _)
  · refine lists_congr (lists_of_listVerb (v := .ports) (fun _ _ => rfl) rfl ht (admits_tables ht.2.1 hh).1) ?_
    have hl : portsLines s.toPart =
        Port.all.flatMap fun port => portLine port (t.get port) :: unitLines port 0 (t.get port).units := by
      rw [portsLines, hp]
    rw [hl]
    simp only [unitLines_eq]
    rfl

/-! ### GET and STAT (R126, R151, R159) -/

theorem getVerb_name {w : Text} {n : SettingName} (hn : findWord settingNames w = some n) (tag : Option Tag) (p : Part) :
    getVerb tag [.word w] p = replyRecord (accepted 0 tag [.word n.name, settingField p.sst.settings n]) p := by
  simp only [getVerb, hn]

theorem getVerb_form {args : List Arg} (h : ∀ w n, args = [.word w] → findWord settingNames w ≠ some n) (tag : Option Tag)
    (p : Part) : getVerb tag args p = refuse 111 tag p := by
  unfold getVerb
  split
  · split
    · rfl
    · exact absurd ‹_› (h _ _ rfl)
  · rfl

theorem statVerb_args {args : List Arg} (h : args ≠ []) (l : Line) (tag : Option Tag) (p : Part) :
    statVerb l tag args p = replyOn l (refusal 111 tag) p := by
  cases args with
  | nil => exact absurd rfl h
  | cons a as => rfl

/-- A verb command of the target line that is taken at once and whose argument words are good gives what RLU does. -/
theorem yields_takeTarget {c : Instr} {v : Verb} {tag : Option Tag} {args : List Text} {as : List Arg} {s : State}
    (hx : exec c s = s.on (targetVerb v tag args)) (ha : classifyWords args = .inr as) (ht : targetTaken s.toPart) :
    Yields c s (takeTarget ⟨v, tag, as⟩ s.toPart) := by
  obtain ⟨ho, hacc, hl, hq⟩ := ht
  have h : Yields c s (targetVerb v tag args s.toPart) := hx
  rwa [targetVerb, arriveTarget_idle ho hacc hl hq, verbRequest, ha, followTarget] at h

theorem takeTarget_stat {p : Part} {r : Released} (hr : p.rlu.released = some r) (tag : Option Tag) (args : List Arg) :
    takeTarget ⟨.stat, tag, args⟩ p = statVerb .target tag args p := by
  rw [takeTarget, hr]

/-- Settles O20, by the argument forms of GET and STAT; the names and values are those of the table. -/
theorem getAndStatReport : Obligations.GetAndStatReport := by
  refine ⟨⟨fun tag args as s ha ht => ?_, ?_⟩, fun t => rfl⟩
  · have h : Yields (.get tag args) s (getVerb tag as s.toPart) :=
      yields_owner (v := .get) rfl ha ht (admits_report ht.2.1).2.2.2.1
    refine ⟨?_, fun hf => ?_⟩
    · rintro w n rfl hn
      rwa [getVerb_name hn, replyRecord_quiet ht.1] at h
    · rwa [getVerb_form hf, refuse_quiet ht.1] at h
  · rintro tag args as s entry unit r ha rfl rfl rfl
    refine ⟨fun ht => ?_, fun ht hrel => ?_⟩
    · have h : Yields (.stat .console tag args) s (statVerb .console tag as s.toPart) :=
        yields_owner (v := .stat) rfl ha ht (admits_report ht.2.1).2.2.2.2
      refine ⟨?_, fun hne => ?_⟩
      · rintro rfl
        rwa [statVerb, replyOn, replyRecord_quiet ht.1] at h
      · rw [statVerb_args hne] at h
        exact (refuse_quiet ht.1 111 tag) ▸ h
    · obtain ⟨rel, hr⟩ := Option.ne_none_iff_exists'.mp hrel
      have h := yields_takeTarget (c := .stat .target tag args) rfl ha ht
      rw [takeTarget_stat hr] at h
      refine ⟨?_, fun hne => ?_⟩
      · rintro rfl
        exact (targetReply_quiet ht _) ▸ h
      · rw [statVerb_args hne] at h
        exact (targetReply_quiet ht _) ▸ h

end Sys2Proof.Proofs

/-! PROOFS. The settings store: SET (R156 to R158), SAVE and what comes back (R161 to R164), DEFAULTS (R165), and what a power reset
leaves (R138, R187). -/

namespace Sys2Proof.Proofs

open Sys2Proof Sys2Proof.Machine

/-! ### SET (R154, R156 to R158) -/

/-- A table of words gives the value of the word's own entry. -/
theorem findWord_eq_some_iff {α : Type} {t : List (String × α)} (hn : (t.map fun x => x.1.toList).Nodup) {w : Text} {v : α} :
    findWord t w = some v ↔ ∃ k, (k, v) ∈ t ∧ k.toList = w := by
  induction t with
  | nil => simp [findWord]
  | cons x t ih =>
    obtain ⟨k, u⟩ := x
    rw [List.map_cons, List.nodup_cons] at hn
    unfold findWord
    by_cases hk : k.toList = w
    · rw [if_pos hk]
      constructor
      · rintro ⟨⟩
        exact ⟨k, by simp, hk⟩
      · rintro ⟨j, hj, hw⟩
        obtain hj | hj := List.mem_cons.mp hj
        · cases hj
          rfl
        · exact absurd (List.mem_map.mpr ⟨(j, v), hj, hw.trans hk.symm⟩) hn.1
    · rw [if_neg hk, ih hn.2]
      constructor
      · rintro ⟨j, hj, hw⟩
        exact ⟨j, List.mem_cons_of_mem _ hj, hw⟩
      · rintro ⟨j, hj, hw⟩
        obtain hj | hj := List.mem_cons.mp hj
        · cases hj
          exact absurd hw hk
        · exact ⟨j, hj, hw⟩

section Set

variable {w : Text} {n : SettingName} {p : Part} (tag : Option Tag)

theorem setVerb_form {args : List Arg} (h : ∀ w v n, args = [.word w, v] → findWord settingNames w ≠ some n) :
    setVerb tag args p = refuse 111 tag p := by
  unfold setVerb
  split
  · split
    · rfl
    · exact absurd ‹_› (h _ _ _ rfl)
  · rfl

theorem setVerb_refused (hn : findWord settingNames w = some n) {v : Arg} {code : Nat}
    (hj : judgeSetting p.sst.settings n v = .inl code) : setVerb tag [.word w, v] p = refuse code tag p := by
  simp only [setVerb, hn, hj]

theorem setVerb_accepted (hn : findWord settingNames w = some n) {v : Arg} {t : Settings}
    (hj : judgeSetting p.sst.settings n v = .inr t) :
    setVerb tag [.word w, v] p = if n.isPortKind ∧ slotHeld p then refuse 121 tag p else setTaken n t tag p := by
  simp only [setVerb, hn, hj]

theorem isPortKind_eq_false (h : ∀ port, n ≠ .portKind port) : n.isPortKind = false := by
  cases n with
  | portKind port => exact absurd rfl (h port)
  | _ => rfl

theorem setTaken_plain (hc : n ≠ .conrate) (hp : ∀ port, n ≠ .portKind port) (t : Settings) :
    setTaken n t tag p = replyOk tag (setSettings t p) := by
  cases n with
  | conrate => exact absurd rfl hc
  | portKind port => exact absurd rfl (hp port)
  | _ => rfl

theorem numeric_of_range {x : Nat} (h : settingRange n x = true) : n.numeric = true := by
  cases n with
  | autostart | autocheck | checkfail | verify | portKind => cases h
  | _ => rfl

theorem settingRange_of_not_numeric (h : n.numeric = false) (x : Nat) : settingRange n x = false := by
  cases hr : settingRange n x with
  | false => rfl
  | true => cases h.symm.trans (numeric_of_range hr)

theorem judgeSetting_number (s : Settings) (n : SettingName) (x : Nat) :
    judgeSetting s n (.num x) =
      if n.numeric then (if settingRange n x then .inr (setNumber s n x) else .inl 112) else .inl 111 := rfl

theorem judgeSetting_noKeyword {s : Settings} {k : Text} (h : setKeyword s n k = none) :
    judgeSetting s n (.word k) = .inl 111 := by
  simp only [judgeSetting, h]

theorem judgeSetting_keyword {s t : Settings} {k : Text} (h : setKeyword s n k = some t) :
    judgeSetting s n (.word k) = .inr t := by
  simp only [judgeSetting, h]

end Set

/-- The console once a rate has been requested still has nothing waiting. -/
theorem requestRate_quiet {rate : Nat} {c : Console} (hl : c.lines = []) (hr : c.replies = []) :
    (requestRate rate c).2.lines = [] ∧ (requestRate rate c).2.replies = [] := by
  unfold requestRate unmarkRate
  split
  · simp [hl, hr]
  · split
    · simp [hl, hr]
    · exact ⟨hl, hr⟩

/-- A reply that a rate switch may wait for, with nothing waiting ahead of it (R157, R183). -/
theorem replyRate_quiet {p : Part} (h : consoleQuiet p) (r : Record) {mark : Bool} {c : Console}
    (hr : requestRate p.sst.settings.conrate p.con = (mark, c)) :
    replyRate r p = { p with con := c.answered { record := some r, rateSwitch := mark } } := by
  have hq := requestRate_quiet (rate := p.sst.settings.conrate) h.1 h.2
  rw [hr] at hq
  rw [replyRate, hr]
  exact reply_quiet (p := { p with con := c }) hq _

theorem requestRate_same (c : Console) :
    requestRate c.rate c = (false, if c.pendingRate = none then c else { unmarkRate c with pendingRate := none }) := by
  unfold requestRate
  rw [if_neg (by simp)]
  cases hp : c.pendingRate <;> simp

theorem requestRate_other {rate : Nat} {c : Console} (h : rate ≠ c.rate) :
    requestRate rate c = (true, { unmarkRate c with pendingRate := some rate }) := by
  rw [requestRate, if_pos h]

theorem not_slotHeld {p : Part} (h : p.sup.slot = none) : slotHeld p = false := by simp [slotHeld, h]

theorem slotHeld_of_ne {p : Part} (h : p.sup.slot ≠ none) : slotHeld p = true := Option.isSome_iff_ne_none.mpr h

/-- A keyword of a table puts the value of its own entry. -/
theorem findWord_map_iff {α β : Type} {words : List (String × α)} (hn : (words.map fun x => x.1.toList).Nodup) {k : Text} {f : α → β}
    {v : β} : (findWord words k).map f = some v ↔ (k, v) ∈ words.map fun x => (x.1.toList, f x.2) := by
  rw [Option.map_eq_some_iff, List.mem_map]
  constructor
  · rintro ⟨b, hb, rfl⟩
    obtain ⟨w, hw, rfl⟩ := (findWord_eq_some_iff hn).mp hb
    exact ⟨(w, b), hw, rfl⟩
  · rintro ⟨⟨w, b⟩, hw, he⟩
    cases he
    exact ⟨b, (findWord_eq_some_iff hn).mpr ⟨w, hw, rfl⟩, rfl⟩

/-- A keyword is one of its setting's own (R154). -/
theorem setKeyword_iff (t : Settings) (n : SettingName) (k : Text) (v : Settings) :
    setKeyword t n k = some v ↔
      (n, k, v) ∈
          [(.autostart, "ON".toList, { t with autostart := true }), (.autostart, "OFF".toList, { t with autostart := false }),
            (.verify, "ON".toList, { t with verify := true }), (.verify, "OFF".toList, { t with verify := false }),
            (.autocheck, "NONE".toList, { t with autocheck := .nothing }),
            (.autocheck, "QUICK".toList, { t with autocheck := .quick }),
            (.autocheck, "WALK".toList, { t with autocheck := .walk }),
            (.checkfail, "HALT".toList, { t with checkfail := .halt }),
            (.checkfail, "CONTINUE".toList, { t with checkfail := .carryOn })] ∨
        ∃ port kind,
          (kind, k) ∈ [(.unused, "NONE".toList), (.flash, "FLASH".toList), (.card, "CARD".toList), (.block, "BLOCK".toList),
            (.link, "LINK".toList)] ∧
          n = .portKind port ∧ v = { t with kinds := t.kinds.set port kind } := by
  cases n with
  | autostart =>
    refine (findWord_map_iff (words := onOffWords) (by decide)).trans ?_
    simp [onOffWords]
  | verify =>
    refine (findWord_map_iff (words := onOffWords) (by decide)).trans ?_
    simp [onOffWords]
  | autocheck =>
    refine (findWord_map_iff (words := autoCheckWords) (by decide)).trans ?_
    simp [autoCheckWords]
  | checkfail =>
    refine (findWord_map_iff (words := checkFailWords) (by decide)).trans ?_
    simp [checkFailWords]
  | portKind port =>
    refine (findWord_map_iff (words := portKindWords) (by decide)).trans ?_
    constructor
    · intro h
      obtain ⟨⟨w, kind⟩, hw, he⟩ := List.mem_map.mp h
      cases he
      refine .inr ⟨port, kind, ?_, rfl, rfl⟩
      exact List.mem_map_of_mem (f := fun x : String × PortKind => (x.2, x.1.toList)) hw
    · rintro (h | ⟨port', kind, hw, hport, rfl⟩)
      · simp at h
      · cases hport
        obtain ⟨⟨w, kind'⟩, hmem, he⟩ := List.mem_map.mp
          (show (kind, k) ∈ portKindWords.map fun x => (x.2, x.1.toList) from hw)
        cases he
        exact List.mem_map_of_mem (f := fun x : String × PortKind => (x.1.toList, { t with kinds := t.kinds.set port x.2 })) hmem
  | _ => simp [setKeyword]

/-- Settles O24: the judgement of the value, then the setting's own effect. -/
theorem setReplacesOneSetting : Obligations.SetReplacesOneSetting := by
  refine ⟨fun tag args as s ha ht ⟨b, hm⟩ => ?_, fun x => ?_⟩
  · have h : Yields (.set tag args) s (setVerb tag as s.toPart) := yields_owner (v := .set) rfl ha ht (hm ▸ rfl)
    have hq : ∀ t : Settings, consoleQuiet (setSettings t s.toPart) := fun _ => ht.1
    refine ⟨fun hf => ?_, fun w n hn => ⟨?_, ?_⟩⟩
    · rwa [setVerb_form tag hf, refuse_quiet ht.1] at h
    · rintro x rfl
      refine ⟨fun hnum => ?_, fun hnum hr => ?_, fun hr => ?_⟩
      · rwa [setVerb_refused tag hn (by rw [judgeSetting_number, hnum]; rfl), refuse_quiet ht.1] at h
      · rwa [setVerb_refused tag hn (by rw [judgeSetting_number, hnum, hr]; rfl), refuse_quiet ht.1] at h
      · have hnum := numeric_of_range hr
        have hport : ∀ port, n ≠ .portKind port := by
          rintro port rfl
          cases hnum
        rw [setVerb_accepted tag hn (by rw [judgeSetting_number, hnum, hr]; rfl), isPortKind_eq_false hport,
          if_neg (by simp)] at h
        refine ⟨fun hc => ?_, fun hc hx => ?_, fun hc hx => ?_⟩
        · rwa [setTaken_plain tag hc hport, replyOk_quiet (hq _)] at h
        · subst hc hx
          change Yields _ _ (replyRate _ _) at h
          rwa [replyRate_quiet (hq _) _ (requestRate_same _)] at h
        · subst hc
          change Yields _ _ (replyRate _ _) at h
          rwa [replyRate_quiet (hq _) _ (requestRate_other (by exact hx))] at h
    · rintro k rfl
      refine ⟨fun hk => ?_, fun v hk => ⟨fun hport => ?_, ?_⟩⟩
      · rwa [setVerb_refused tag hn (judgeSetting_noKeyword hk), refuse_quiet ht.1] at h
      · have hc : n ≠ .conrate := by
          rintro rfl
          cases hk
        rwa [setVerb_accepted tag hn (judgeSetting_keyword hk), isPortKind_eq_false hport, if_neg (by simp),
          setTaken_plain tag hc hport, replyOk_quiet (hq _)] at h
      · rintro port rfl
        rw [setVerb_accepted tag hn (judgeSetting_keyword hk)] at h
        refine ⟨fun hs => ?_, fun hs => ?_⟩
        · rwa [if_pos ⟨rfl, slotHeld_of_ne hs⟩, refuse_quiet ht.1] at h
        · rw [if_neg (by simp [not_slotHeld hs])] at h
          change Yields _ _ (replyOk tag (resetEntry port (v.kinds.get port) (setSettings v s.toPart))) at h
          rwa [replyOk_quiet (by exact ht.1)] at h
  · refine ⟨?_, ?_, ?_, ?_, ?_, ?_, ?_, ?_, ?_, ?_, ?_, fun n hn => settingRange_of_not_numeric hn x, fun t => ⟨rfl, setKeyword_iff t⟩⟩
    all_goals simp [settingRange, lineRates]

/-! ### SAVE (R162, R163) -/

theorem saveVerb_args {args : List Arg} (h : args ≠ []) (tag : Option Tag) (p : Part) : saveVerb tag args p = refuse 111 tag p := by
  cases args with
  | nil => exact absurd rfl h
  | cons a as => rfl

theorem saveVerb_nil (tag : Option Tag) (p : Part) :
    saveVerb tag [] p =
      if p.sst.saving.isSome then refuse 902 tag p
      else if 0xFFFFFFFF ≤ newestGeneration p.sst then refuse 905 tag p
      else replyOk tag (beginSave tag p) := rfl

theorem saveTarget_a {t : Sst} (h : newestArea t = some .a) : saveTarget t = .b := by rw [saveTarget, h]

theorem saveTarget_not_a {t : Sst} (h : newestArea t ≠ some .a) : saveTarget t = .a := by
  unfold saveTarget
  split
  · exact absurd ‹_› h
  · rfl

/-- Settles O25, by the area that holds the newest copy. -/
theorem saveWritesTheOtherArea : Obligations.SaveWritesTheOtherArea := by
  refine ⟨fun tag args as s ha ht ⟨b, hm⟩ => ?_, fun s v hv => ⟨fun harea => ?_, fun harea => ?_, ?_⟩⟩
  · have h : Yields (.save tag args) s (saveVerb tag as s.toPart) := yields_owner (v := .save) rfl ha ht (hm ▸ rfl)
    refine ⟨fun hne => ?_, ?_⟩
    · rwa [saveVerb_args hne, refuse_quiet ht.1] at h
    · rintro rfl
      rw [saveVerb_nil] at h
      refine ⟨fun hs => ?_, fun hs => ⟨fun hg => ?_, fun hg => ?_⟩⟩
      · rwa [if_pos (Option.isSome_iff_ne_none.mpr hs), refuse_quiet ht.1] at h
      · rwa [if_neg (by simp [hs]), if_pos hg, refuse_quiet ht.1] at h
      · rw [if_neg (by simp [hs]), if_neg (Nat.not_le.mpr hg), replyOk_quiet (by exact ht.1), beginSave] at h
        refine ⟨fun hn => ?_, fun hn => ?_⟩
        · rwa [saveTarget_a hn] at h
        · rwa [saveTarget_not_a hn] at h
  · have h : Yields (.saveWriteEnd .readBackEqual) s (writeEnded .readBackEqual s.toPart) := rfl
    simpa only [writeEnded, hv, saveDone, harea, setArea, setCopyRecord, Area.name] using h
  · have h : Yields (.saveWriteEnd .readBackEqual) s (writeEnded .readBackEqual s.toPart) := rfl
    simpa only [writeEnded, hv, saveDone, harea, setArea, setCopyRecord, Area.name] using h
  · intro c hc
    have h : Yields c s (saveFailed v s.toPart) := by
      obtain rfl | rfl | rfl := hc
      · have h : Yields (.saveWriteEnd .readBackDiffers) s (writeEnded .readBackDiffers s.toPart) := rfl
        rwa [writeEnded, hv] at h
      · have h : Yields (.saveWriteEnd .writeError) s (writeEnded .writeError s.toPart) := rfl
        rwa [writeEnded, hv] at h
      · have h : Yields .saveTimerExpiry s (saveExpiry s.toPart) := rfl
        rwa [saveExpiry, hv] at h
    obtain ⟨area, generation, snapshot, tag⟩ := v
    cases area <;> exact h

/-! ### The choice of the settings (R161) -/

/-- The valid copy with the higher generation and its area's source, or the defaults. -/
inductive Chosen (t : Sst) : Settings → Source → Nat → Prop
  | defaults : validCopy t.areaA = none → validCopy t.areaB = none → Chosen t defaultSettings .defaults 0
  | a (c : StoredCopy) : validCopy t.areaA = some c → (∀ d, validCopy t.areaB = some d → d.generation < c.generation) →
      Chosen t c.settings .a c.generation
  | b (c : StoredCopy) : validCopy t.areaB = some c → (∀ d, validCopy t.areaA = some d → d.generation < c.generation) →
      Chosen t c.settings .b c.generation

/-- The settings memory once the settings have been chosen. -/
def settledStore (t : Sst) (s : Settings) (source : Source) : Sst :=
  { t with
    settings := s, source := source, recordA := validGeneration t.areaA, recordB := validGeneration t.areaB }

theorem areaA_of_valid {t : Sst} {c : StoredCopy} (h : validCopy t.areaA = some c) : t.areaA = some c := by
  unfold validCopy at h
  split at h
  · cases h
  · split at h
    · cases h
      assumption
    · cases h

theorem areaB_of_valid {t : Sst} {c : StoredCopy} (h : validCopy t.areaB = some c) : t.areaB = some c := by
  unfold validCopy at h
  split at h
  · cases h
  · split at h
    · cases h
      assumption
    · cases h

theorem chooseSettings_chosen {t : Sst} {s : Settings} {source : Source} {g : Nat} (h : Chosen t s source g) :
    chooseSettings t = settledStore t s source ∧ newestGeneration (settledStore t s source) = g := by
  cases h with
  | defaults ha hb => simp [chooseSettings, settledStore, validGeneration, newestArea, newestGeneration, ha, hb]
  | a c ha hb =>
    have hca := areaA_of_valid ha
    rw [hca] at ha
    cases hd : validCopy t.areaB with
    | none => simp [chooseSettings, settledStore, validGeneration, newestArea, newestGeneration, areaCopy, Area.source, ha, hd, hca]
    | some d =>
      have hlt := hb d hd
      simp [chooseSettings, settledStore, validGeneration, newestArea, newestGeneration, areaCopy, Area.source, ha, hd, hca,
        Nat.le_of_lt hlt]
  | b c hb ha =>
    have hcb := areaB_of_valid hb
    rw [hcb] at hb
    cases hd : validCopy t.areaA with
    | none => simp [chooseSettings, settledStore, validGeneration, newestArea, newestGeneration, areaCopy, Area.source, hb, hd, hcb]
    | some d =>
      have hlt := ha d hd
      simp [chooseSettings, settledStore, validGeneration, newestArea, newestGeneration, areaCopy, Area.source, hb, hd, hcb,
        Nat.le_of_lt hlt, Nat.not_le.mpr hlt]

/-- The part once its settings have settled (R4, R161, R183). -/
def settledPart (p : Part) (s : Settings) (source : Source) (g : Nat) : Part :=
  { p with
    sst := settledStore p.sst s source
    spc := { p.spc with ports := some (freshPorts s.kinds p.spc.sense) }
    con := settleRate s.conrate (raise 904 none [.word source.name, .num g] p).con
    sup := { p.sup with settled := true } }

theorem settle_chosen {p : Part} (hm : p.sup.mode = .init) (hs : p.sup.settled = false) {s : Settings} {source : Source} {g : Nat}
    (h : Chosen p.sst s source g) :
    settle p = if p.sup.initTimer then settledPart p s source g else endInit (settledPart p s source g) := by
  obtain ⟨hc, hg⟩ := chooseSettings_chosen h
  rw [settle, if_pos ⟨hm, hs⟩, hc]
  dsimp only
  rw [hg]
  rfl

/-! ### A SAVE and the reset after it (R161 to R164) -/

theorem validCopy_storedCopy (g : Nat) (s : Settings) : validCopy (some (storedCopy g s)) = some (storedCopy g s) :=
  if_pos (decide_eq_true rfl)

/-- A power reset and the settling after it. -/
theorem reset_settles {s : State} {reset : Instr} (hr : reset = .powerOn ∨ reset = .pinReset) {x : Settings} {source : Source}
    {g : Nat} (h : Chosen { s.sst with settings := defaultSettings, recordA := none, recordB := none, source := .defaults,
                                       saving := none } x source g) :
    ∃ t, runCommands [reset, .settingsSettled] s = .next t ∧ t.sst.settings = x ∧ t.sst.source = source ∧
      t.sst.saving = none ∧ copyRecord t.sst .a = validGeneration s.sst.areaA ∧
      copyRecord t.sst .b = validGeneration s.sst.areaB := by
  have hsettle : ∀ cause, settle (takePowerReset cause s.toPart) = settledPart (takePowerReset cause s.toPart) x source g :=
    fun cause => settle_chosen (p := takePowerReset cause s.toPart) rfl rfl h
  obtain rfl | rfl := hr
  · refine ⟨{ s with toPart := settle (takePowerReset .powerOn s.toPart) }, rfl, ?_⟩
    rw [hsettle]
    exact ⟨rfl, rfl, rfl, rfl, rfl⟩
  · refine ⟨{ s with toPart := settle (takePowerReset .pin s.toPart) }, rfl, ?_⟩
    rw [hsettle]
    exact ⟨rfl, rfl, rfl, rfl, rfl⟩

/-- The choice when one area holds no valid copy. -/
theorem chosen_of_one {t : Sst} {area : Area} (h : validCopy (areaCopy t area) = none) :
    (∀ c, validCopy (areaCopy t area.other) = some c → Chosen t c.settings area.other.source c.generation) ∧
      (validCopy (areaCopy t area.other) = none → Chosen t defaultSettings .defaults 0) := by
  cases area with
  | a =>
    exact ⟨fun c hc => .b c hc fun d hd => (by cases h.symm.trans hd), fun hb => .defaults h hb⟩
  | b =>
    exact ⟨fun c hc => .a c hc fun d hd => (by cases h.symm.trans hd), fun ha => .defaults ha h⟩

/-- The choice of the copy that a SAVE has programmed. -/
theorem chosen_of_saved {t : Sst} {v : Save} (hcopy : areaCopy t v.area = some (storedCopy v.generation v.snapshot))
    (hother : ∀ g, validGeneration (areaCopy t v.area.other) = some g → g < v.generation) :
    Chosen t v.snapshot v.area.source v.generation := by
  have hvalid := validCopy_storedCopy v.generation v.snapshot
  have hlt : ∀ d, validCopy (areaCopy t v.area.other) = some d → d.generation < v.generation := fun d hd =>
    hother _ (by rw [validGeneration, hd]; rfl)
  cases harea : v.area with
  | a =>
    rw [harea] at hcopy hlt
    have ha : t.areaA = some (storedCopy v.generation v.snapshot) := hcopy
    exact .a (storedCopy v.generation v.snapshot) (by rw [ha, hvalid]) hlt
  | b =>
    rw [harea] at hcopy hlt
    have hb : t.areaB = some (storedCopy v.generation v.snapshot) := hcopy
    exact .b (storedCopy v.generation v.snapshot) (by rw [hb, hvalid]) hlt

theorem saveDone_sst (v : Save) (p : Part) :
    areaCopy (saveDone v p).sst v.area = some (storedCopy v.generation v.snapshot) ∧
      areaCopy (saveDone v p).sst v.area.other = areaCopy p.sst v.area.other := by
  unfold saveDone
  cases v.area <;> exact ⟨rfl, rfl⟩

/-- Settles O26: the copy that was programmed is the newest; before that the area being written holds none. -/
theorem savedSettingsComeBack : Obligations.SavedSettingsComeBack := by
  intro s v reset hsound hv hr
  obtain ⟨-, -, hsave⟩ := hsound
  obtain ⟨hnone, hlt⟩ := hsave v hv
  constructor
  · obtain ⟨hcopy, hother⟩ := saveDone_sst v s.toPart
    have hrun : runCommands [.saveWriteEnd .readBackEqual, reset, .settingsSettled] s =
        runCommands [reset, .settingsSettled] { s with toPart := saveDone v s.toPart } := by
      have hexec : exec (.saveWriteEnd .readBackEqual) s = .next { s with toPart := saveDone v s.toPart } := by
        change s.on (writeEnded .readBackEqual) = _
        rw [on_eq, writeEnded, hv]
      rw [runCommands, hexec]
    obtain ⟨t, ht, hset, hsrc, hsaving, ha, hb⟩ := reset_settles (s := { s with toPart := saveDone v s.toPart }) hr
      (chosen_of_saved (t := { (saveDone v s.toPart).sst with settings := defaultSettings, recordA := none, recordB := none,
                                                              source := .defaults, saving := none })
        (by cases harea : v.area <;> rw [harea] at hcopy <;> exact hcopy)
        (by
          intro g hg
          refine hlt g ?_
          rw [← hother]
          cases harea : v.area <;> rw [harea] at hg <;> exact hg))
    refine ⟨t, hrun.trans ht, hset, hsrc, ?_, hsaving⟩
    have hgen : validGeneration (areaCopy (saveDone v s.toPart).sst v.area) = some v.generation := by
      rw [hcopy, validGeneration, validCopy_storedCopy]
      rfl
    cases harea : v.area with
    | a =>
      rw [harea] at hgen
      exact ha.trans hgen
    | b =>
      rw [harea] at hgen
      exact hb.trans hgen
  · have hinvalid : validCopy (areaCopy s.sst v.area) = none := by rw [hnone]; rfl
    obtain ⟨hcopy, hdefault⟩ := chosen_of_one (area := v.area)
      (t := { s.sst with settings := defaultSettings, recordA := none, recordB := none, source := .defaults, saving := none })
      (by cases harea : v.area <;> rw [harea] at hinvalid <;> exact hinvalid)
    have hrecord : ∀ t : State, copyRecord t.sst .a = validGeneration s.sst.areaA →
        copyRecord t.sst .b = validGeneration s.sst.areaB → copyRecord t.sst v.area = none := by
      intro t ha hb
      have hgen : validGeneration (areaCopy s.sst v.area) = none := by rw [validGeneration, hinvalid]; rfl
      cases harea : v.area with
      | a => rw [harea] at hgen; exact ha.trans hgen
      | b => rw [harea] at hgen; exact hb.trans hgen
    have hsame : areaCopy { s.sst with settings := defaultSettings, recordA := none, recordB := none, source := .defaults,
                                       saving := none } v.area.other = areaCopy s.sst v.area.other := by
      cases v.area <;> rfl
    rw [hsame] at hcopy hdefault
    cases hc : validCopy (areaCopy s.sst v.area.other) with
    | some c =>
      obtain ⟨t, ht, hset, hsrc, hsaving, ha, hb⟩ := reset_settles hr (hcopy c hc)
      refine ⟨t, ht, hsaving, hrecord t ha hb, ?_, nofun⟩
      rintro _ ⟨⟩
      exact ⟨hset, hsrc⟩
    | none =>
      obtain ⟨t, ht, hset, hsrc, hsaving, ha, hb⟩ := reset_settles hr (hdefault hc)
      exact ⟨t, ht, hsaving, hrecord t ha hb, fun _ h => absurd h (Option.some_ne_none _).symm, fun _ => ⟨hset, hsrc⟩⟩

/-! ### DEFAULTS (R72, R165) -/

theorem four_ext {α : Type} {s t : Four α} (h : ∀ port, s.get port = t.get port) : s = t := by
  obtain ⟨⟩ := s
  obtain ⟨⟩ := t
  rw [Four.mk.injEq]
  exact ⟨h .sp0, h .sp1, h .sp2, h .sp3⟩

theorem mem_changedKinds {s : Settings} {port : Port} : port ∈ changedKinds s ↔ s.kinds.get port ≠ defaultSettings.kinds.get port := by
  have hp : port ∈ Port.all := by cases port <;> decide
  simp [changedKinds, hp]

theorem mem_changedRegions {s : Settings} {i : Idx} : i ∈ changedRegions s ↔ s.map.get i ≠ defaultSettings.map.get i := by
  have hi : i ∈ Idx.all := by cases i <;> decide
  simp [changedRegions, hi]

theorem changedKinds_eq_nil {s : Settings} : changedKinds s = [] ↔ s.kinds = defaultSettings.kinds := by
  rw [List.eq_nil_iff_forall_not_mem]
  simp only [mem_changedKinds, ne_eq, Classical.not_not]
  exact ⟨four_ext, fun h port => by rw [h]⟩

theorem changedRegions_eq_nil {s : Settings} : changedRegions s = [] ↔ s.map = defaultSettings.map := by
  rw [List.eq_nil_iff_forall_not_mem]
  simp only [mem_changedRegions, ne_eq, Classical.not_not]
  exact ⟨eight_ext, fun h i => by rw [h]⟩

/-- Port entries reset one after another. -/
def resetEntries (ports : List Port) (p : Part) : Part :=
  ports.foldl (fun p port => resetEntry port (defaultSettings.kinds.get port) p) p

/-- Regions made UNCHECKED one after another. -/
def uncheckAll (regions : List Idx) (p : Part) : Part := regions.foldl (fun p i => setHealth i .unchecked p) p

theorem resetEntries_spec (ports : List Port) (p : Part) :
    ∃ x : Spc, resetEntries ports p = { p with spc := x } ∧ x.sense = p.spc.sense ∧
      ∀ port, entryOf { p with spc := x } port =
        (entryOf p port).map fun e =>
          if port ∈ ports then freshEntry (defaultSettings.kinds.get port) (p.spc.sense.get port) else e := by
  induction ports generalizing p with
  | nil => exact ⟨p.spc, rfl, rfl, fun port => by simp⟩
  | cons first ports ih =>
    obtain ⟨x, hx, hsense, hentry⟩ := ih (resetEntry first (defaultSettings.kinds.get first) p)
    refine ⟨x, hx, hsense, fun port => (hentry port).trans ?_⟩
    by_cases hp : port = first
    · subst hp
      cases he : entryOf p port with
      | none =>
        have hnone : p.spc.ports = none := Option.map_eq_none_iff.mp he
        simp [entryOf, resetEntry, setEntry, hnone]
      | some e =>
        have hs : entryOf (resetEntry port (defaultSettings.kinds.get port) p) port =
            some (freshEntry (defaultSettings.kinds.get port) (p.spc.sense.get port)) := entryOf_setEntry_self he
        rw [hs]
        simp [resetEntry, setEntry]
    · have hs : entryOf (resetEntry first (defaultSettings.kinds.get first) p) port = entryOf p port :=
        entryOf_setEntry_of_ne _ hp
      rw [hs]
      simp [hp, resetEntry, setEntry]

theorem uncheckAll_spec (regions : List Idx) (p : Part) :
    ∃ health, uncheckAll regions p = { p with mmp := { p.mmp with health := health } } ∧
      ∀ i, health.get i = if i ∈ regions then .unchecked else p.mmp.health.get i := by
  induction regions generalizing p with
  | nil => exact ⟨p.mmp.health, rfl, fun i => by simp⟩
  | cons first regions ih =>
    obtain ⟨health, hx, hget⟩ := ih (setHealth first .unchecked p)
    refine ⟨health, hx, fun i => (hget i).trans ?_⟩
    by_cases hi : i = first
    · subst hi
      simp [setHealth]
    · simp [setHealth, Eight.get_set_of_ne _ _ hi, hi]

/-- DEFAULTS: the settings and the source, the changed entries reset, the changed regions UNCHECKED. -/
theorem loadDefaults_spec (p : Part) :
    ∃ (x : Spc) (health : Eight Health),
      loadDefaults p =
        { p with
          sst := { p.sst with settings := defaultSettings, source := .defaults }
          spc := x
          mmp := { p.mmp with health := health } } ∧
      x.sense = p.spc.sense ∧
      (∀ port, entryOf { p with spc := x } port =
        (entryOf p port).map fun e =>
          if p.sst.settings.kinds.get port = defaultSettings.kinds.get port then e
          else freshEntry (defaultSettings.kinds.get port) (p.spc.sense.get port)) ∧
      ∀ i, health.get i =
        if p.sst.settings.map.get i = defaultSettings.map.get i then p.mmp.health.get i else .unchecked := by
  obtain ⟨x, hx, hsense, hentry⟩ := resetEntries_spec (changedKinds p.sst.settings)
    { p with sst := { p.sst with settings := defaultSettings, source := .defaults } }
  obtain ⟨health, hh, hget⟩ := uncheckAll_spec (changedRegions p.sst.settings)
    { p with sst := { p.sst with settings := defaultSettings, source := .defaults }, spc := x }
  refine ⟨x, health, ?_, hsense, fun port => (hentry port).trans ?_, fun i => (hget i).trans ?_⟩
  · exact (congrArg (uncheckAll (changedRegions p.sst.settings)) hx).trans hh
  · simp only [mem_changedKinds, ne_eq, ite_not]
    rfl
  · simp only [mem_changedRegions, ne_eq, ite_not]

theorem defaultsVerb_args {args : List Arg} (h : args ≠ []) (tag : Option Tag) (p : Part) :
    defaultsVerb tag args p = refuse 111 tag p := by
  cases args with
  | nil => exact absurd rfl h
  | cons a as => rfl

theorem defaultsVerb_nil (tag : Option Tag) (p : Part) :
    defaultsVerb tag [] p =
      if p.sst.saving.isSome then refuse 902 tag p
      else if slotHeld p ∧ (changedKinds p.sst.settings ≠ [] ∨ changedRegions p.sst.settings ≠ []) then refuse 121 tag p
      else defaultsTaken tag p := rfl

/-- Settles O27: the judgement in its order, then what DEFAULTS changes. -/
theorem defaultsReplacesTheSettings : Obligations.DefaultsReplacesTheSettings := by
  intro tag args as s ha ht ⟨b, hm⟩
  have h : Yields (.defaults tag args) s (defaultsVerb tag as s.toPart) := yields_owner (v := .defaults) rfl ha ht (hm ▸ rfl)
  refine ⟨fun hne => ?_, ?_, ?_⟩
  · rwa [defaultsVerb_args hne, refuse_quiet ht.1] at h
  · rintro rfl hs
    rwa [defaultsVerb_nil, if_pos (Option.isSome_iff_ne_none.mpr hs), refuse_quiet ht.1] at h
  rintro rfl hs
  rw [defaultsVerb_nil, if_neg (by simp [hs])] at h
  simp only [ne_eq, changedKinds_eq_nil, changedRegions_eq_nil] at h
  refine ⟨fun hslot hchange => ?_, fun hfree => ?_⟩
  · rwa [if_pos ⟨slotHeld_of_ne hslot, hchange⟩, refuse_quiet ht.1] at h
  · have hno : ¬ (slotHeld s.toPart = true ∧
        (¬ s.sst.settings.kinds = defaultSettings.kinds ∨ ¬ s.sst.settings.map = defaultSettings.map)) := by
      rintro ⟨hheld, hchange⟩
      obtain hslot | ⟨hk, hr⟩ := hfree
      · cases (not_slotHeld hslot).symm.trans hheld
      · exact hchange.elim (absurd hk) (absurd hr)
    rw [if_neg hno] at h
    obtain ⟨x, health, he, hsense, hentry, hget⟩ := loadDefaults_spec s.toPart
    rw [defaultsTaken, he] at h
    have hreply := fun {mark c} hr => replyRate_quiet (p := { s.toPart with
      sst := { s.sst with settings := defaultSettings, source := .defaults }, spc := x, mmp := { s.mmp with health := health } })
      ht.1 (accepted 903 tag []) (mark := mark) (c := c) hr
    by_cases hrate : s.con.rate = 38400
    · rw [hreply (by rw [← requestRate_same, hrate]; rfl)] at h
      exact ⟨_, h, rfl, hsense, hentry, hget, rfl, rfl, rfl, rfl, rfl, rfl, rfl, fun _ => rfl, fun hne => absurd hrate hne⟩
    · rw [hreply (requestRate_other (Ne.symm hrate))] at h
      exact ⟨_, h, rfl, hsense, hentry, hget, rfl, rfl, rfl, rfl, rfl, rfl, rfl, fun he => absurd he hrate, fun _ => rfl⟩

/-- Settles O50: a power reset's fields. -/
theorem powerResetsLeave : Obligations.PowerResetsLeave := by
  intro s c cause h
  have hx : exec c s = s.on (takePowerReset cause) := by
    obtain ⟨rfl, rfl⟩ | ⟨rfl, rfl⟩ := h <;> rfl
  exact ⟨_, hx, rfl, rfl, fun i => Eight.get_const _ i, rfl, rfl, rfl, rfl, rfl, rfl, rfl, rfl, rfl, rfl, rfl, rfl, rfl, rfl⟩

end Sys2Proof.Proofs

/-! PROOFS. The release unit: GO (R117 to R120, R130), HOLD (R128), and the requests of the target line (R121, R123, R126, R127). -/

namespace Sys2Proof.Proofs

open Sys2Proof Sys2Proof.Machine

/-! ### The release (R117 to R120) -/

theorem appendRecord_eq (tag : Option Tag) (f : AttemptFields) (o : AttemptOutcome) (detail : Option Nat) (id : Option Word32)
    (p : Part) : appendRecord tag f o detail id p = records tag f o detail id p := rfl

/-- The window of a confirm override, in the three cases of its value (R120). -/
theorem windowOf_eq {override confirm : Nat} {window : Option Nat}
    (h : (override = 0 ∧ window = (if confirm = 0 then none else some confirm)) ∨ (override = 0xFF ∧ window = none) ∨
      (override ≠ 0 ∧ override ≠ 0xFF ∧ window = some override)) : windowOf override confirm = window := by
  obtain ⟨rfl, rfl⟩ | ⟨rfl, rfl⟩ | ⟨h0, hff, rfl⟩ := h
  · rfl
  · rfl
  · rw [windowOf, if_neg h0, if_neg hff]

theorem releasedRecord_eq {plan : LoadPlan} {confirm : Nat} {window : Option Nat} {phase : WindowPhase}
    (hw : windowOf plan.image.confirm confirm = window)
    (hp : phase = if window.isSome then .confirmWait else .running) (kind : ReleaseKind) (tag : Option Tag) :
    releasedRecord plan kind tag confirm =
      { key := ⟨plan.fields.port, plan.fields.unit, plan.image.imageId⟩, fields := plan.fields, kind := kind, tag := tag,
        entry := plan.image.entry, handoff := plan.image.handoff, window := window, phase := phase } := by
  rw [releasedRecord, hw, hp]

/-- A release leaves what `releases` says (R117 to R120, R184). -/
theorem releases_release {plan : LoadPlan} {p : Part} (hp : p.ldr.plan = some plan) (kind : ReleaseKind) (tag : Option Tag) :
    releases kind tag plan p (release kind tag p) := by
  rintro key window phase rfl hw hphase
  rw [release, hp]
  dsimp only
  rw [releasedRecord_eq (windowOf_eq hw) (phase := phase) (by rw [hphase]; cases window <;> rfl)]
  exact ⟨rfl, rfl, rfl, rfl, rfl, rfl, rfl, rfl, rfl, rfl⟩

/-! ### GO (R130) -/

theorem goVerb_args {args : List Arg} (h : args ≠ []) (tag : Option Tag) (p : Part) : goVerb tag args p = refuse 111 tag p := by
  cases args with
  | nil => exact absurd rfl h
  | cons a as => rfl

theorem goVerb_notStaged {p : Part} (h : ¬ (inManual p ∧ p.ldr.image = .staged)) (tag : Option Tag) : goVerb tag [] p = refuse 120 tag p := by
  simp only [goVerb]
  split
  · exact absurd ⟨⟨_, ‹_›⟩, ‹_›⟩ h
  · rfl

theorem goVerb_staged {p : Part} {plan : LoadPlan} (hm : inManual p) (hi : p.ldr.image = .staged) (hp : p.ldr.plan = some plan)
    (tag : Option Tag) :
    goVerb tag [] p =
      if slotHeld p then refuse 121 tag p
      else if planKey plan ∈ p.sre.spent then refuse 305 tag p
      else release .manual tag (replyOk tag (takeSlot .go tag none p)) := by
  obtain ⟨b, hm⟩ := hm
  simp only [goVerb, hm, hi, hp]

/-- Settles O42: GO is judged by RLU in its own order, and its release is the release of `releases`. -/
theorem goReleasesTheStagedImage : Obligations.GoReleasesTheStagedImage := by
  intro tag args as s ha
  have htake : consoleQuiet s.toPart → Yields (.go tag args) s (takeConsole ⟨.go, tag, as⟩ s.toPart) := fun hq =>
    yields_takeConsole rfl ha hq
  refine ⟨fun hq h => ?_, fun ht => ?_⟩
  · have hy := htake hq
    rwa [takeConsole_refused (h.imp_right .inl), refuse_quiet hq] at hy
  · have hy : Yields (.go tag args) s (goVerb tag as s.toPart) := by
      have := htake ht.1
      rwa [takeConsole_admitted ht.2.1 ht.2.2 (.inl rfl)] at this
    refine ⟨fun hne => ?_, ?_, ?_⟩
    · rwa [goVerb_args hne, refuse_quiet ht.1] at hy
    · rintro rfl hno
      rwa [goVerb_notStaged hno, refuse_quiet ht.1] at hy
    · rintro plan key window phase rfl hm hi hp rfl hw hphase
      rw [goVerb_staged hm hi hp] at hy
      refine ⟨fun hs => ?_, fun hs hspent => ?_, fun hs hspent => ?_⟩
      · rwa [if_pos (slotHeld_of_ne hs), refuse_quiet ht.1] at hy
      · rwa [if_neg (by simp [not_slotHeld hs]), if_pos (by exact hspent), refuse_quiet ht.1] at hy
      · rw [if_neg (by simp [not_slotHeld hs]), if_neg (by exact hspent), replyOk_quiet (by exact ht.1)] at hy
        exact ⟨_, hy, releases_release (p := answersOk tag (takeSlot .go tag none s.toPart)) hp .manual tag _ window phase rfl hw
          hphase⟩

/-! ### HOLD (R125, R128) -/

theorem holdVerb_args {args : List Arg} (h : args ≠ []) (tag : Option Tag) (p : Part) : holdVerb tag args p = refuse 111 tag p := by
  unfold holdVerb
  split
  · exact absurd rfl h
  · exact absurd rfl h
  · rfl

theorem holdVerb_nil {p : Part} {r : Released} (hr : p.rlu.released = some r) (tag : Option Tag) :
    holdVerb tag [] p = holdTaken tag r p := by
  simp only [holdVerb, hr]

/-- The part once the target is held, with its candidate record absent (R99, R125, R128). -/
def heldPart (p : Part) : Part :=
  { p with
    tgt := { closedTarget with rate := p.tgt.rate }
    rlu := { treset := .asserted, released := none, windowTimer := none }
    ldr := { p.ldr with image := .nothing, plan := none } }

theorem holdTarget_released {p : Part} (hi : p.ldr.image = .released) :
    holdTarget p = { heldPart p with rlu := { treset := .asserted, released := p.rlu.released, windowTimer := none } } := by
  rw [holdTarget, imageNoneAtHold]
  split
  · rfl
  · exact absurd hi (by assumption)

/-- A record of the attempt log leaves no line and no reply waiting where none waited. -/
theorem consoleQuiet_records {p : Part} (hq : consoleQuiet p) (tag : Option Tag) (f : AttemptFields) (o : AttemptOutcome)
    (detail : Option Nat) (id : Option Word32) : consoleQuiet (records tag f o detail id p) :=
  ⟨(raise_frame _ _ _ _).1.trans hq.1, raise_replies (by exact hq.2) _ _ _⟩

/-- Settles O43, by the phase of the released candidate. -/
theorem holdEndsTheRelease : Obligations.HoldEndsTheRelease := by
  rintro tag args as s ha ht ⟨phase, hm⟩
  have h : Yields (.hold tag args) s (holdVerb tag as s.toPart) := yields_owner (v := .hold) rfl ha ht (hm ▸ rfl)
  refine ⟨fun hne => ?_, ?_⟩
  · rwa [holdVerb_args hne, refuse_quiet ht.1] at h
  · rintro r held rfl hr hi rfl
    rw [holdVerb_nil hr, holdTaken, holdTarget_released hi] at h
    refine ⟨fun hphase => ?_, fun hphase => ?_⟩
    · rw [hphase] at h
      dsimp only at h
      rw [appendRecord_eq, replyRecord_quiet (consoleQuiet_records (by exact ht.1) _ _ _ _ _)] at h
      exact h
    · rw [hphase] at h
      dsimp only at h
      rw [replyRecord_quiet (by exact ht.1)] at h
      exact h

/-! ### The requests of the target line (R121, R123, R127) -/

section Target

variable {p : Part} {r : Released} (tag : Option Tag) (args : List Arg)

theorem takeTarget_alive (hr : p.rlu.released = some r) : takeTarget ⟨.alive, tag, args⟩ p = aliveVerb tag args r p := by
  rw [takeTarget, hr]

theorem takeTarget_revert (hr : p.rlu.released = some r) : takeTarget ⟨.revert, tag, args⟩ p = revertVerb tag args r p := by
  rw [takeTarget, hr]

theorem takeTarget_hand (hr : p.rlu.released = some r) : takeTarget ⟨.hand, tag, args⟩ p = handVerb tag args p := by
  rw [takeTarget, hr]

theorem takeTarget_reboot (hr : p.rlu.released = some r) : takeTarget ⟨.reboot, tag, args⟩ p = rebootVerb tag args p := by
  rw [takeTarget, hr]

variable {args}

theorem aliveVerb_running (h : r.phase = .running) : aliveVerb tag args r p = targetReply (refusal 120 tag) p := by
  simp only [aliveVerb, h]

theorem aliveVerb_form (h : r.phase = .confirmWait) (hf : ∀ i, args ≠ [.num i]) :
    aliveVerb tag args r p = targetReply (refusal 111 tag) p := by
  simp only [aliveVerb, h]

theorem aliveVerb_id (h : r.phase = .confirmWait) (i : Nat) :
    aliveVerb tag [.num i] r p = if i = r.key.imageId.toNat then confirm tag r p else targetReply (refusal 721 tag) p := by
  simp only [aliveVerb, h]

theorem revertVerb_running (h : r.phase = .running) : revertVerb tag args r p = targetReply (refusal 120 tag) p := by
  simp only [revertVerb, h]

theorem revertVerb_args (h : r.phase = .confirmWait) (hne : args ≠ []) :
    revertVerb tag args r p = targetReply (refusal 111 tag) p := by
  cases args with
  | nil => exact absurd rfl hne
  | cons a as => simp only [revertVerb, h]

theorem revertVerb_nil (h : r.phase = .confirmWait) :
    revertVerb tag [] r p = handTarget { record := accepted 712 tag [], after := .revert } (stopAccepting (stopWindow p)) := by
  simp only [revertVerb, h]

theorem rebootVerb_args (hne : args ≠ []) : rebootVerb tag args p = targetReply (refusal 111 tag) p := by
  cases args with
  | nil => exact absurd rfl hne
  | cons a as => rfl

theorem handVerb_args (hne : args ≠ []) : handVerb tag args p = targetReply (refusal 111 tag) p := by
  cases args with
  | nil => exact absurd rfl hne
  | cons a as => rfl

theorem handVerb_none (h : p.ldr.handoff = none) : handVerb tag [] p = targetReply (refusal 122 tag) p := by
  simp only [handVerb, h]

theorem handVerb_some {x : Handoff} (h : p.ldr.handoff = some x) :
    handVerb tag [] p = targetReply (accepted 0 tag (handFields x)) p := by
  simp only [handVerb, h]

end Target

/-- Settles O44, by the phase and the id given. -/
theorem aliveConfirmsTheCandidate : Obligations.AliveConfirmsTheCandidate := by
  intro tag args as s r ha ht hr
  have h := yields_takeTarget (c := .alive tag args) rfl ha ht
  rw [takeTarget_alive tag as hr] at h
  refine ⟨fun hphase => ?_, fun hphase => ⟨fun hf => ?_, ?_⟩⟩
  · rwa [aliveVerb_running tag hphase, targetReply_quiet ht] at h
  · rwa [aliveVerb_form tag hphase hf, targetReply_quiet ht] at h
  · rintro i rfl
    rw [aliveVerb_id tag hphase] at h
    refine ⟨fun hi => ?_, ?_⟩
    · rwa [if_neg hi, targetReply_quiet ht] at h
    · rintro rfl
      rw [if_pos rfl, confirm, targetReply_quiet (by exact ht)] at h
      exact h

/-- Settles O45: each verb's cases, with RLU's own effects before the reply. -/
theorem revertRebootAndHand : Obligations.RevertRebootAndHand := by
  rintro tag args as s r stopped ha ht hr rfl
  have hrevert := yields_takeTarget (c := .revert tag args) rfl ha ht
  have hreboot := yields_takeTarget (c := .reboot tag args) rfl ha ht
  have hhand := yields_takeTarget (c := .hand tag args) rfl ha ht
  rw [takeTarget_revert tag as hr] at hrevert
  rw [takeTarget_reboot tag as hr] at hreboot
  rw [takeTarget_hand tag as hr] at hhand
  refine ⟨fun hphase => ?_, fun hphase => ⟨fun hne => ?_, ?_⟩, fun hne => ?_, ?_, fun hne => ?_, ?_, ?_⟩
  · rwa [revertVerb_running tag hphase, targetReply_quiet ht] at hrevert
  · rwa [revertVerb_args tag hphase hne, targetReply_quiet ht] at hrevert
  · rintro rfl
    rw [revertVerb_nil tag hphase, handTarget_quiet (by exact ht.2.2.2)] at hrevert
    exact hrevert
  · rwa [rebootVerb_args tag hne, targetReply_quiet ht] at hreboot
  · rintro rfl
    rw [rebootVerb, handTarget_quiet (by exact ht.2.2.2)] at hreboot
    exact hreboot
  · rwa [handVerb_args tag hne, targetReply_quiet ht] at hhand
  · rintro rfl hn
    rwa [handVerb_none tag hn, targetReply_quiet ht] at hhand
  · rintro x rfl hx
    rwa [handVerb_some tag hx, targetReply_quiet ht] at hhand

end Sys2Proof.Proofs

/-! PROOFS. The memory port's two verbs, PEEK and POKE: their judgement and their outcomes (R75 to R81). -/

namespace Sys2Proof.Proofs

open Sys2Proof Sys2Proof.Machine

-- One proof after another: all of them at once would take a thread and its stack each.
set_option Elab.async false

/-! ### The judgement of a transaction (R67, R75) -/

theorem regionAt_eq_none_iff {map : Eight (Option Region)} {a : Nat} : regionAt map a = none ↔ ¬ mapped map a := by
  have hall : ∀ i : Idx, i ∈ Idx.all := by
    intro i
    cases i <;> decide
  rw [regionAt, List.find?_eq_none]
  constructor
  · rintro h ⟨i, r, hi, hr⟩
    exact h i (hall i) (by simp [hi, hr])
  · rintro h i -
    cases hi : map.get i with
    | none => simp
    | some r => simpa [hi] using fun hr => h ⟨i, r, hi, hr⟩

section Judge

variable {p : Part} {a : Nat}

theorem judgeTxn_freed (kind : TxnKind) (ht : p.rlu.treset = .freed) : judgeTxn kind a p = some .targetRunning := by
  rw [judgeTxn, if_pos ht]

theorem judgeTxn_misaligned (kind : TxnKind) (ht : p.rlu.treset = .asserted) (ha : a % 4 ≠ 0) :
    judgeTxn kind a p = some .misaligned := by
  rw [judgeTxn, if_neg (by simp [ht]), if_pos ha]

theorem judgeTxn_unmapped (kind : TxnKind) (ht : p.rlu.treset = .asserted) (ha : a % 4 = 0)
    (hm : ¬ mapped p.sst.settings.map a) : judgeTxn kind a p = some .outsideMap := by
  rw [judgeTxn, if_neg (by simp [ht]), if_neg (by simp [ha]), regionAt_eq_none_iff.mpr hm]

theorem judgeTxn_read (ht : p.rlu.treset = .asserted) (ha : a % 4 = 0) (hm : mapped p.sst.settings.map a) :
    judgeTxn .read a p = none := by
  obtain ⟨i, hi⟩ := Option.ne_none_iff_exists'.mp (mt regionAt_eq_none_iff.mp (not_not_intro hm))
  rw [judgeTxn, if_neg (by simp [ht]), if_neg (by simp [ha]), hi]

theorem judgeTxn_write {i : Idx} {r : Region} (w : Word32) (ht : p.rlu.treset = .asserted) (ha : a % 4 = 0)
    (hi : regionAt p.sst.settings.map a = some i) (hr : p.sst.settings.map.get i = some r) :
    judgeTxn (.write w) a p = if r.preserve then some .preserved else none := by
  rw [judgeTxn, if_neg (by simp [ht]), if_neg (by simp [ha]), hi]
  simp [hr]

/-- A transaction that the port takes. -/
theorem requestTxn_taken {kind : TxnKind} (h : judgeTxn kind a p = none) (rq : TxnRequester) :
    requestTxn kind a rq p = (inFlight kind a rq p, none) := by
  rw [requestTxn, h]
  rfl

theorem requestTxn_refused {kind : TxnKind} {r : TxnRefusal} (h : judgeTxn kind a p = some r) (rq : TxnRequester) :
    requestTxn kind a rq p = (p, some r) := by
  rw [requestTxn, h]

end Judge

theorem someOutside_iff {map : Eight (Option Region)} {a n : Nat} :
    someOutside map a n = true ↔ ∃ k, k < n ∧ ¬ mapped map (a + 4 * k) := by
  simp [someOutside, regionAt_eq_none_iff]

/-! ### PEEK and POKE (R78, R80) -/

theorem peekVerb_form {args : List Arg} (h : ∀ a n, args ≠ [.num a] ∧ args ≠ [.num a, .num n]) (tag : Option Tag) (p : Part) :
    peekVerb tag args p = refuse 111 tag p := by
  unfold peekVerb
  split
  · exact absurd rfl (h _ 0).1
  · exact absurd rfl (h _ _).2
  · rfl

theorem peekVerb_words {args : List Arg} {a n : Nat} (h : (args = [.num a] ∧ n = 1) ∨ args = [.num a, .num n]) (tag : Option Tag)
    (p : Part) : peekVerb tag args p = peekWords tag a n p := by
  obtain ⟨rfl, rfl⟩ | rfl := h <;> rfl

theorem pokeVerb_form {args : List Arg} (h : ∀ a v, args ≠ [.num a, .num v]) (tag : Option Tag) (p : Part) :
    pokeVerb tag args p = refuse 111 tag p := by
  unfold pokeVerb
  split
  · exact absurd rfl (h _ _)
  · rfl

/-- The reads of a PEEK begin with the first (R78). -/
theorem peekFrom_taken {p : Part} {a : Nat} (h : judgeTxn .read a p = none) (tag : Option Tag) (words : List (Nat × PeekWord))
    (n : Nat) : peekFrom tag a words (n + 1) p = inFlight .read a .peek (setVerbRun (.peek tag a (n + 1) words) p) := by
  rw [peekFrom, requestTxn_taken (by exact h), follow]

theorem peekWords_accepted {p : Part} {a n : Nat} (tag : Option Tag) (h1 : 1 ≤ n) (h16 : n ≤ 16) (hs : p.sup.slot = none)
    (ht : p.rlu.treset = .asserted) (ha : a % 4 = 0) (hm : ∀ k, k < n → mapped p.sst.settings.map (a + 4 * k)) :
    peekWords tag a n p = slotTaken .peek tag (some (.peek tag a n [])) (inFlight .read a .peek p) := by
  obtain ⟨n, rfl⟩ := Nat.exists_eq_add_of_le' h1
  have hout : ¬ someOutside p.sst.settings.map a (n + 1) = true := by
    rw [someOutside_iff]
    rintro ⟨k, hk, hno⟩
    exact hno (hm k hk)
  rw [peekWords, if_neg (by omega), if_neg (by simp [not_slotHeld hs]), if_neg (by simp [ht]), if_neg (by simp [ha]), if_neg hout,
    peekFrom_taken (by exact judgeTxn_read ht ha (hm 0 (by omega)))]
  rfl

theorem beginPoke_refused {p : Part} {a : Nat} {r : TxnRefusal} (tag : Option Tag) (v : Nat)
    (h : judgeTxn (.write (BitVec.ofNat 32 v)) a p = some r) : beginPoke tag a v p = goIdle (refuse r.code tag p) := by
  rw [beginPoke, requestTxn_refused h, follow]

theorem beginPoke_taken {p : Part} {a : Nat} (tag : Option Tag) (v : Nat)
    (h : judgeTxn (.write (BitVec.ofNat 32 v)) a p = none) : beginPoke tag a v p = inFlight (.write (BitVec.ofNat 32 v)) a .poke p := by
  rw [beginPoke, requestTxn_taken h, follow]

/-- A POKE that the port refuses has held the slot no longer than its reply. -/
theorem pokeVerb_refused {s : State} {a : Nat} {r : TxnRefusal} {tag : Option Tag} {v : Nat} (hq : consoleQuiet s.toPart)
    (hs : s.sup.slot = none) (h : judgeTxn (.write (BitVec.ofNat 32 v)) a s.toPart = some r) :
    pokeVerb tag [.num a, .num v] s.toPart = refuses r.code tag (slotGivenBack s.toPart) := by
  rw [pokeVerb, if_neg (by simp [not_slotHeld hs]), beginPoke_refused tag v (by exact h),
    refuse_quiet (by exact hq)]
  rfl

/-- Settles O34: the order of the refusals, and the transaction that goes out when none of them holds. -/
theorem peekAndPokeRequestTransactions : Obligations.PeekAndPokeRequestTransactions := by
  intro tag args as s ha ht ⟨b, hm⟩
  have hpeek : Yields (.peek tag args) s (peekVerb tag as s.toPart) := yields_owner (v := .peek) rfl ha ht (hm ▸ rfl)
  have hpoke : Yields (.poke tag args) s (pokeVerb tag as s.toPart) := yields_owner (v := .poke) rfl ha ht (hm ▸ rfl)
  refine ⟨fun hf => ?_, fun a n hform => ⟨fun hn => ?_, fun h1 h16 => ⟨fun hs => ?_, fun hs hf => ?_, fun hs hr => ⟨fun hal => ?_,
    fun hal hout => ?_, fun hal hin => ?_⟩⟩⟩, fun hf => ?_, ?_⟩
  · rwa [peekVerb_form hf, refuse_quiet ht.1] at hpeek
  · rwa [peekVerb_words hform, peekWords, if_pos hn, refuse_quiet ht.1] at hpeek
  · rwa [peekVerb_words hform, peekWords, if_neg (by omega), if_pos (slotHeld_of_ne hs), refuse_quiet ht.1] at hpeek
  · rwa [peekVerb_words hform, peekWords, if_neg (by omega), if_neg (by simp [not_slotHeld hs]), if_pos hf,
      refuse_quiet ht.1] at hpeek
  · rwa [peekVerb_words hform, peekWords, if_neg (by omega), if_neg (by simp [not_slotHeld hs]), if_neg (by simp [hr]), if_pos hal,
      refuse_quiet ht.1] at hpeek
  · rwa [peekVerb_words hform, peekWords, if_neg (by omega), if_neg (by simp [not_slotHeld hs]), if_neg (by simp [hr]),
      if_neg (by simp [hal]), if_pos (someOutside_iff.mpr hout), refuse_quiet ht.1] at hpeek
  · rwa [peekVerb_words hform, peekWords_accepted tag h1 h16 hs hr hal hin] at hpeek
  · rwa [pokeVerb_form hf, refuse_quiet ht.1] at hpoke
  · rintro a v rfl
    refine ⟨fun hs => ?_, fun hs hf => ?_, fun hs hr => ⟨fun hal => ?_, fun hal => ⟨fun hout => ?_, fun i r hi hreg =>
      ⟨fun hpres => ?_, fun hpres => ?_⟩⟩⟩⟩
    · rwa [pokeVerb, if_pos (slotHeld_of_ne hs), refuse_quiet ht.1] at hpoke
    · rwa [pokeVerb_refused ht.1 hs (judgeTxn_freed _ hf)] at hpoke
    · rwa [pokeVerb_refused ht.1 hs (judgeTxn_misaligned _ hr hal)] at hpoke
    · rwa [pokeVerb_refused ht.1 hs (judgeTxn_unmapped _ hr hal hout)] at hpoke
    · rwa [pokeVerb_refused ht.1 hs ((judgeTxn_write _ hr hal hi hreg).trans (if_pos hpres))] at hpoke
    · have hjudge := (judgeTxn_write (BitVec.ofNat 32 v) hr hal hi hreg).trans (if_neg (by simp [hpres]))
      rw [pokeVerb, if_neg (by simp [not_slotHeld hs]), beginPoke_taken tag v (by exact hjudge)] at hpoke
      exact hpoke

/-! ### Their outcomes (R76, R79, R80) -/

/-- A reply with no reply waiting ahead of it. -/
theorem replyRecord_alone {p : Part} (hr : p.con.replies = []) (r : Record) : replyRecord r p = answers r p := by
  cases ht : p.con.tx with
  | none => simp [replyRecord, reply_free ht hr, answers, Console.answered, ht, ← hr]
  | some j => simp [replyRecord, reply_busy ht, answers, Console.answered, ht, hr]

section Ends

variable {s : State} {t : Transaction}

theorem yields_done (h : s.mmp.txn = some t) (w : Word32) :
    Yields (.memoryResponse true false w) s
      (txnEnded t (.done (match t.kind with | .read => w | .write _ => 0)) s.toPart) := by
  have hy : Yields (.memoryResponse true false w) s (busResponse true false w s.toPart) := rfl
  cases hk : t.kind <;> simpa [busResponse, h, busOutcome, hk] using hy

theorem yields_busError (h : s.mmp.txn = some t) (mrdy : Bool) (w : Word32) :
    Yields (.memoryResponse mrdy true w) s (txnEnded t .busError s.toPart) := by
  have hy : Yields (.memoryResponse mrdy true w) s (busResponse mrdy true w s.toPart) := rfl
  simpa only [busResponse, h, busOutcome, if_true] using hy

theorem yields_noResponse (h : s.mmp.txn = some t) : Yields .responseTimeout s (txnEnded t .noResponse s.toPart) := by
  have hy : Yields .responseTimeout s (responseExpiry s.toPart) := rfl
  simpa only [responseExpiry, h] using hy

theorem yields_noLine (h : s.mmp.txn = some t) (w : Word32) : Yields (.memoryResponse false false w) s s.toPart := by
  have hy : Yields (.memoryResponse false false w) s (busResponse false false w s.toPart) := rfl
  simpa [busResponse, h, busOutcome] using hy

end Ends

theorem pokeOutcome_poke {p : Part} {tag : Option Tag} (h : p.sup.verbRun = some (.poke tag)) (o : TxnOutcome) :
    pokeOutcome o p = endPoke tag o p := by
  rw [pokeOutcome, h]

theorem peekOutcome_goesOn {p : Part} {tag : Option Tag} {a left : Nat} {words : List (Nat × PeekWord)}
    (h : p.sup.verbRun = some (.peek tag a left words)) (ha : p.sup.abortPending = false) (o : TxnOutcome) :
    peekOutcome o p = peekFrom tag (a + 4) (words ++ [(a, peekWordOf o)]) (left - 1) p := by
  simp only [peekOutcome, h, ha]
  rfl

theorem peekLines_eq (words : List (Nat × PeekWord)) :
    words.map peekLine =
      words.map fun y => [.num y.1, match y.2 with | .word v => .num v.toNat | .code k => .code k] :=
  List.map_congr_left fun y _ => by
    obtain ⟨a, x⟩ := y
    cases x <;> rfl

theorem endPeek_alone {p : Part} (hr : p.con.replies = []) (tag : Option Tag) (words : List (Nat × PeekWord)) :
    endPeek tag words p =
      slotGivenBack (answers
        (multiLine tag (words.map fun y => [.num y.1, match y.2 with | .word v => .num v.toNat | .code k => .code k])) p) := by
  rw [endPeek, replyRecord_alone hr, peekLines_eq]
  rfl

/-- Settles O35: the outcome of the transaction in flight, then what PEEK or POKE makes of it. -/
theorem peekAndPokeEndWithTheirOutcomes : Obligations.PeekAndPokeEndWithTheirOutcomes := by
  intro s a tag w hr
  refine ⟨fun x ht hv => ⟨?_, fun mrdy => ?_, ?_, yields_noLine ht w⟩, ?_⟩
  · have h := yields_done ht w
    rw [txnEnded, pokeOutcome_poke (by exact hv), endPoke, replyOk, replyRecord_alone (by exact hr)] at h
    exact h
  · have h := yields_busError ht mrdy w
    rw [txnEnded, pokeOutcome_poke (by exact hv), endPoke, refuse, replyRecord_alone (by exact hr)] at h
    exact h
  · have h := yields_noResponse ht
    rw [txnEnded, pokeOutcome_poke (by exact hv), endPoke, refuse, replyRecord_alone (by exact hr)] at h
    exact h
  · intro left words c x ht hv habort hc
    have h : Yields c s (peekFrom tag (a + 4) (words ++ [(a, x)]) (left - 1) (endTxn s.toPart)) := by
      obtain ⟨rfl, rfl⟩ | ⟨⟨mrdy, rfl⟩, rfl⟩ | ⟨rfl, rfl⟩ := hc
      · have h := yields_done ht w
        rw [txnEnded, peekOutcome_goesOn (by exact hv) (by exact habort)] at h
        exact h
      · have h := yields_busError ht mrdy w
        rw [txnEnded, peekOutcome_goesOn (by exact hv) (by exact habort)] at h
        exact h
      · have h := yields_noResponse ht
        rw [txnEnded, peekOutcome_goesOn (by exact hv) (by exact habort)] at h
        exact h
    refine ⟨?_, ?_⟩
    · rintro rfl
      rw [Nat.sub_self, peekFrom, endPeek_alone (by exact hr)] at h
      exact h
    · rintro n rfl hj
      rw [Nat.add_sub_cancel (n := n + 1) (m := 1), peekFrom_taken (by exact hj)] at h
      exact h

end Sys2Proof.Proofs

/-! PROOFS. Rounds of the search: what a round leaves unchanged, how it begins, and the end of a failed window that begins one (R43 to
R50, R62, R63, R123 to R125). -/

namespace Sys2Proof.Proofs

open Sys2Proof Sys2Proof.Machine

/-! ### What the steps of a round leave unchanged (R44 to R49) -/

/-- What identifies a run in a round. -/
def runKey (r : SearchRun) : Origin × Option Tag × Nat := (r.origin, r.tag, r.round)

/-- The steps of a round keep the run and its round, the spent list and the release count, the slot, the other blocks, and the
record being sent with the replies that wait. -/
structure RoundKeeps (p q : Part) : Prop where
  run : q.sre.run.map runKey = p.sre.run.map runKey
  lastRound : q.sre.lastRound = p.sre.lastRound
  spent : q.sre.spent = p.sre.spent
  releaseCount : q.sre.releaseCount = p.sre.releaseCount
  slot : q.sup.slot = p.sup.slot
  runTag : q.sup.runTag = p.sup.runTag
  mmp : q.mmp = p.mmp
  mck : q.mck = p.mck
  ldr : q.ldr = p.ldr
  rlu : q.rlu = p.rlu
  sst : q.sst = p.sst
  tgt : q.tgt = p.tgt
  sending : ∀ i, p.con.tx = some i → q.con.tx = some i ∧ q.con.replies = p.con.replies

theorem RoundKeeps.refl (p : Part) : RoundKeeps p p :=
  ⟨rfl, rfl, rfl, rfl, rfl, rfl, rfl, rfl, rfl, rfl, rfl, rfl, fun _ h => ⟨h, rfl⟩⟩

theorem RoundKeeps.trans {p q t : Part} (h : RoundKeeps p q) (g : RoundKeeps q t) : RoundKeeps p t where
  run := g.run.trans h.run
  lastRound := g.lastRound.trans h.lastRound
  spent := g.spent.trans h.spent
  releaseCount := g.releaseCount.trans h.releaseCount
  slot := g.slot.trans h.slot
  runTag := g.runTag.trans h.runTag
  mmp := g.mmp.trans h.mmp
  mck := g.mck.trans h.mck
  ldr := g.ldr.trans h.ldr
  rlu := g.rlu.trans h.rlu
  sst := g.sst.trans h.sst
  tgt := g.tgt.trans h.tgt
  sending := fun i hi => ⟨(g.sending i (h.sending i hi).1).1, (g.sending i (h.sending i hi).1).2.trans (h.sending i hi).2⟩

/-- A notice changes neither the record being sent nor the replies. -/
theorem raise_sending {p : Part} {i : ConsoleItem} (h : p.con.tx = some i) (code : Nat) (tag : Option Tag) (fs : List Field) :
    (raise code tag fs p).con.tx = some i ∧ (raise code tag fs p).con.replies = p.con.replies := by
  rw [raise_busy h]
  unfold queueNotice
  split
  · exact ⟨h, rfl⟩
  · exact ⟨h, rfl⟩

variable {p : Part}

theorem RoundKeeps.raise (code : Nat) (tag : Option Tag) (fs : List Field) : RoundKeeps p (raise code tag fs p) :=
  { RoundKeeps.refl p with sending := fun _ hi => raise_sending hi code tag fs }

theorem RoundKeeps.appendRunRecord (o : AttemptOutcome) (d : Option Nat) (i : Option Word32) :
    RoundKeeps p (appendRunRecord o d i p) :=
  { RoundKeeps.refl p with sending := fun _ hi => raise_sending (by exact hi) _ _ _ }

theorem RoundKeeps.setRun {f : SearchRun → SearchRun} (hf : ∀ r, runKey (f r) = runKey r) : RoundKeeps p (setRun f p) :=
  { RoundKeeps.refl p with
    run := by
      change (p.sre.run.map f).map runKey = _
      rw [Option.map_map]
      exact congrArg (Option.map · p.sre.run) (funext hf) }

theorem RoundKeeps.setMode (m : Mode) : RoundKeeps p (setMode m p) := { RoundKeeps.refl p with }

theorem RoundKeeps.setEntry (port : Port) (e : PortEntry) : RoundKeeps p (setEntry port e p) := { RoundKeeps.refl p with }

theorem RoundKeeps.clearFault (port : Port) : RoundKeeps p (clearFault port p) := by
  unfold Machine.clearFault
  split
  · exact .refl p
  · split
    · exact (RoundKeeps.setEntry _ _).trans (.raise _ _ _)
    · exact .refl p

theorem RoundKeeps.clearFaults : RoundKeeps p (clearFaults p) :=
  (((RoundKeeps.clearFault .sp0).trans (.clearFault .sp1)).trans (.clearFault .sp2)).trans (.clearFault .sp3)

/-- A PROBE request touches the port's entry only. -/
theorem RoundKeeps.requestProbe (port : Port) (u : Nat) (rq : Requester) : RoundKeeps p (requestProbe port u rq p).1 := by
  obtain ⟨e, -, h⟩ | ⟨r, h⟩ | ⟨e, x, -, h⟩ := requestProbe_cases port u rq p
  · rw [h]
    exact .setEntry _ _
  · rw [h]
    exact .refl p
  · rw [h]
    exact .setEntry _ _

theorem RoundKeeps.startAttempt (port : Port) (unit : Nat) : RoundKeeps p (startAttempt port unit p).1 := by
  have hq : RoundKeeps p (Machine.setMode (.auto .search) (Machine.setRun (fun r => { r with stage := .probing }) p)) :=
    (RoundKeeps.setRun (f := fun r => { r with stage := .probing }) fun _ => rfl).trans (.setMode _)
  unfold Machine.startAttempt
  dsimp only
  split
  · exact hq
  · split
    · exact hq
    · refine hq.trans ?_
      unfold followTo
      split
      · exact .requestProbe _ _ _
      · dsimp only
        split
        · exact .requestProbe _ _ _
        · exact .requestProbe _ _ _

theorem RoundKeeps.moveTo (x : Position) : RoundKeeps p (moveTo x p) := .setRun fun _ => rfl

theorem RoundKeeps.countTry : RoundKeeps p (countTry p) := .setRun fun _ => rfl

theorem RoundKeeps.tryUnit (x : Position) (n : Nat) : RoundKeeps p (tryUnit x n p).1 := by
  induction n generalizing p with
  | zero => exact .refl p
  | succ n ih =>
    unfold Machine.tryUnit
    dsimp only
    split
    · exact .startAttempt _ _
    · rename_i o _
      have hc : RoundKeeps p (Machine.countTry (Machine.appendRunRecord o none none (Machine.startAttempt x.spec.port x.unit p).1)) :=
        ((RoundKeeps.startAttempt _ _).trans (.appendRunRecord _ _ _)).trans .countTry
      split
      · exact hc.trans ih
      · exact hc

theorem RoundKeeps.walk (xs : List Position) : RoundKeeps p (walk xs p).1 := by
  induction xs generalizing p with
  | nil => exact .refl p
  | cons x xs ih =>
    have ht : RoundKeeps p (Machine.tryUnit x x.spec.tries (Machine.moveTo x p)).1 := (RoundKeeps.moveTo x).trans (.tryUnit _ _)
    unfold Machine.walk
    dsimp only
    split
    · exact ht
    · exact ht.trans ih

/-! ### The end of a round, and its beginning (R44, R49) -/

/-- The end of a round is what `roundEnds` says (R49). -/
theorem roundEnds_endRound {r : SearchRun} (hr : p.sre.run = some r) : roundEnds r p (endRound p) := by
  rintro maxrounds rfl
  rw [endRound, hr]
  refine ⟨fun h0 hle => ?_, fun h => ?_⟩
  · exact if_pos ⟨h0, hle⟩
  · exact if_neg (by simp only [raise_sst]; omega)

/-- A run whose round has begun: it goes on in that round, or it is over at MAXROUNDS (R44, R49). -/
structure RoundBegun (origin : Origin) (tag : Option Tag) (n : Nat) (p t : Part) : Prop where
  lastRound : t.sre.lastRound = n
  spent : t.sre.spent = p.sre.spent
  releaseCount : t.sre.releaseCount = p.sre.releaseCount
  goesOn : ∀ run, t.sre.run = some run →
    run.origin = origin ∧ run.tag = tag ∧ run.round = n ∧ t.sup.slot = p.sup.slot ∧ t.sup.runTag = p.sup.runTag
  ended : t.sre.run = none →
    t.sup.slot = none ∧ t.sup.mode = .manual none ∧ p.sst.settings.maxrounds ≠ 0 ∧ p.sst.settings.maxrounds ≤ n
  mmp : t.mmp = p.mmp
  mck : t.mck = p.mck
  ldr : t.ldr = p.ldr
  rlu : t.rlu = p.rlu
  sst : t.sst = p.sst
  tgt : t.tgt = p.tgt
  sending : ∀ i, p.con.tx = some i → t.con.tx = some i ∧ t.con.replies = p.con.replies

/-- Steps of a round keep what has begun; they do not end the run. -/
theorem RoundBegun.of_keeps {r : SearchRun} {t : Part} (hr : p.sre.run = some r) (h : RoundKeeps p t) (hn : p.sre.lastRound = r.round) :
    RoundBegun r.origin r.tag r.round p t where
  lastRound := h.lastRound.trans hn
  spent := h.spent
  releaseCount := h.releaseCount
  goesOn := by
    intro run hrun
    have hk := h.run
    rw [hr, hrun] at hk
    obtain ⟨ho, ht, hround⟩ : run.origin = r.origin ∧ run.tag = r.tag ∧ run.round = r.round := by simpa [runKey] using hk
    exact ⟨ho, ht, hround, h.slot, h.runTag⟩
  ended := by
    intro hrun
    have hk := h.run
    rw [hr, hrun] at hk
    cases hk
  mmp := h.mmp
  mck := h.mck
  ldr := h.ldr
  rlu := h.rlu
  sst := h.sst
  tgt := h.tgt
  sending := h.sending

/-- What has begun from a part that the steps of a round have led to. -/
theorem RoundBegun.of_keeps_left {origin : Origin} {tag : Option Tag} {n : Nat} {q t : Part} (h : RoundKeeps p q)
    (g : RoundBegun origin tag n q t) : RoundBegun origin tag n p t where
  lastRound := g.lastRound
  spent := g.spent.trans h.spent
  releaseCount := g.releaseCount.trans h.releaseCount
  goesOn := fun run hrun => by
    obtain ⟨ho, ht, hn, hs, hr⟩ := g.goesOn run hrun
    exact ⟨ho, ht, hn, hs.trans h.slot, hr.trans h.runTag⟩
  ended := fun hrun => by
    have := g.ended hrun
    rwa [h.sst] at this
  mmp := g.mmp.trans h.mmp
  mck := g.mck.trans h.mck
  ldr := g.ldr.trans h.ldr
  rlu := g.rlu.trans h.rlu
  sst := g.sst.trans h.sst
  tgt := g.tgt.trans h.tgt
  sending := fun i hi => ⟨(g.sending i (h.sending i hi).1).1, (g.sending i (h.sending i hi).1).2.trans (h.sending i hi).2⟩

/-- The end of a round ends the run at MAXROUNDS, and otherwise keeps it (R49). -/
theorem roundBegun_endRound {r : SearchRun} (hr : p.sre.run = some r) (hn : p.sre.lastRound = r.round) :
    RoundBegun r.origin r.tag r.round p (endRound p) := by
  obtain ⟨hover, hwait⟩ := roundEnds_endRound hr _ rfl
  by_cases h : p.sst.settings.maxrounds ≠ 0 ∧ p.sst.settings.maxrounds ≤ r.round
  · have hk : RoundKeeps p (raise 303 r.tag [.num r.round] (raise 301 r.tag [.num r.round] p)) :=
      (RoundKeeps.raise _ _ _).trans (.raise _ _ _)
    rw [hover h.1 h.2]
    exact { RoundBegun.of_keeps hr hk hn with goesOn := nofun, ended := fun _ => ⟨rfl, rfl, h⟩ }
  · have hk : RoundKeeps p (raise 301 r.tag [.num r.round] p) := .raise _ _ _
    rw [hwait (by omega)]
    refine { RoundBegun.of_keeps hr hk hn with goesOn := ?_, ended := nofun }
    rintro run ⟨⟩
    exact ⟨rfl, rfl, rfl, rfl, rfl⟩

/-- A round that has begun leads on, or to its end (R44, R49). -/
theorem roundBegun_walkOn {r : SearchRun} (xs : List Position) (hr : p.sre.run = some r) (hn : p.sre.lastRound = r.round) :
    RoundBegun r.origin r.tag r.round p (walkOn xs p) := by
  have hw : RoundKeeps p (walk xs p).1 := .walk xs
  unfold walkOn
  dsimp only
  split
  · exact .of_keeps hr hw hn
  · obtain ⟨w, hw', hk⟩ := Option.map_eq_some_iff.mp (hw.run.trans (by rw [hr]; rfl))
    obtain ⟨ho, ht, hround⟩ : w.origin = r.origin ∧ w.tag = r.tag ∧ w.round = r.round := by simpa [runKey] using hk
    have hend := roundBegun_endRound hw' (hw.lastRound.trans (hn.trans hround.symm))
    rw [ho, ht, hround] at hend
    exact hend.of_keeps_left hw

/-- The run at the start of round n (R44). -/
def runAtRound (n : Nat) (r : SearchRun) : SearchRun :=
  { r with round := n, pass := .normal, entry := 0, unit := 0, triesUsed := 0, stage := .probing }

/-- The part at the start of round n, before the faults are cleared (R44). -/
def atRound (n : Nat) (r : SearchRun) (p : Part) : Part :=
  runStands (runAtRound n r) .search { p with sre := { p.sre with lastRound := n, waitTimer := none } }

theorem beginRound_run {r : SearchRun} (hr : p.sre.run = some r) (n : Nat) :
    beginRound n p =
      walkOn (roundPositions (clearFaults (atRound n r p)).sst.settings.order) (clearFaults (atRound n r p)) := by
  have hq : setMode (.auto .search)
      (setSre (fun s =>
        { s with
          lastRound := n
          waitTimer := none
          run := s.run.map fun r => { r with round := n, pass := .normal, entry := 0, unit := 0, triesUsed := 0, stage := .probing } })
        p) = atRound n r p := by
    simp only [setMode, setSre, hr]
    rfl
  rw [beginRound, hq]

/-- A round begins (R44). -/
theorem roundBegun_beginRound {r : SearchRun} (hr : p.sre.run = some r) (n : Nat) :
    RoundBegun r.origin r.tag n p (beginRound n p) := by
  rw [beginRound_run hr]
  have hc : RoundKeeps (atRound n r p) (clearFaults (atRound n r p)) := .clearFaults
  obtain ⟨w, hw, hk⟩ := Option.map_eq_some_iff.mp (hc.run.trans rfl)
  obtain ⟨ho, ht, hround⟩ : w.origin = r.origin ∧ w.tag = r.tag ∧ w.round = n := by simpa [runKey, runAtRound] using hk
  have hb := roundBegun_walkOn (roundPositions (clearFaults (atRound n r p)).sst.settings.order) hw (hc.lastRound.trans hround.symm)
  rw [ho, ht, hround] at hb
  exact { hb.of_keeps_left hc with }

/-- The number of a run's first round (R43, R62). -/
def firstRound (origin : Origin) (p : Part) : Nat :=
  match origin with
  | .fallback => min 0xFFFF (p.sre.lastRound + 1)
  | _ => 1

/-- A run begins (R43). -/
theorem roundBegun_beginRun (origin : Origin) (tag : Option Tag) :
    RoundBegun origin tag (firstRound origin p)
      { p with sup := { p.sup with slot := some .searchRun, runTag := tag } } (beginRun origin tag p) := by
  unfold beginRun
  dsimp only
  have hb := roundBegun_beginRound (n := firstRound origin p) (p := raise 300 tag [.num (firstRound origin p), .word origin.name]
    { p with
      sre := { p.sre with run := some ⟨origin, tag, firstRound origin p, .normal, 0, 0, 0, none, .probing⟩, waitTimer := none }
      sup := { p.sup with mode := .auto .search, slot := some .searchRun, runTag := tag, verbRun := none } }) rfl
  exact { hb with
    sending := fun i hi =>
      have h := raise_sending (p := { p with
        sre := { p.sre with run := some ⟨origin, tag, firstRound origin p, .normal, 0, 0, 0, none, .probing⟩, waitTimer := none }
        sup := { p.sup with mode := .auto .search, slot := some .searchRun, runTag := tag, verbRun := none } }) hi 300 tag
        [.num (firstRound origin p), .word origin.name]
      ⟨(hb.sending i h.1).1, (hb.sending i h.1).2.trans h.2⟩ }

/-! ### SEEK and the end of a round wait (R50, R63) -/

theorem seekVerb_form {args : List Arg} (h0 : args ≠ []) (hc : args ≠ [.word "CLEAR".toList]) (tag : Option Tag) (p : Part) :
    seekVerb tag args p = refuse 111 tag p := by
  unfold seekVerb
  split
  · exact absurd rfl h0
  · rename_i w
    rw [if_pos fun hw : w = "CLEAR".toList => hc (by rw [hw])]
  · rfl

theorem seekVerb_judged {args : List Arg} (h : args = [] ∨ args = [.word "CLEAR".toList]) (tag : Option Tag) (p : Part) :
    seekVerb tag args p = if slotHeld p then refuse 121 tag p else seekTaken (decide (args ≠ [])) tag p := by
  obtain rfl | rfl := h
  · rfl
  · rw [seekVerb, if_neg (not_not_intro rfl)]
    rfl

theorem waitExpiry_running {r : SearchRun} (h : p.sre.waitTimer ≠ none) (hr : p.sre.run = some r) :
    waitExpiry p = beginRound (min 0xFFFF (r.round + 1)) p := by
  rw [waitExpiry, if_pos (Option.isSome_iff_ne_none.mpr h), endRoundWait, hr]

/-- The console after a reply with nothing waiting ahead of it sends something. -/
theorem answered_sending (i : ConsoleItem) (c : Console) :
    (c.tx = none → (c.answered i).tx = some i) ∧
      ∀ j, c.tx = some j → (c.answered i).tx = some j ∧ (c.answered i).replies = [i] := by
  refine ⟨fun h => ?_, fun j h => ?_⟩
  · simp [Console.answered, h]
  · simp [Console.answered, h]

/-- The part with which a SEEK begins its run: the reply handed, and after CLEAR the spent list and the count emptied (R63). -/
theorem seekCleared {p : Part} (hq : consoleQuiet p) (clear : Bool) (tag : Option Tag) :
    ∃ q, replyOk tag
        (if clear then
          clearSpent { p with sup := { p.sup with mode := .auto .search, slot := some .searchRun, verbRun := none } }
        else { p with sup := { p.sup with mode := .auto .search, slot := some .searchRun, verbRun := none } }) = q ∧
      q.con = p.con.answered { record := some (accepted 0 tag []) } ∧
      q.sre.spent = (if clear then [] else p.sre.spent) ∧ q.sre.releaseCount = (if clear then 0 else p.sre.releaseCount) ∧
      q.mmp = p.mmp ∧ q.mck = p.mck ∧ q.ldr = p.ldr ∧ q.rlu = p.rlu ∧ q.sst = p.sst ∧ q.tgt = p.tgt := by
  refine ⟨_, rfl, ?_⟩
  cases clear with
  | false =>
    rw [if_neg (by simp), replyOk_quiet (by exact hq)]
    exact ⟨rfl, rfl, rfl, rfl, rfl, rfl, rfl, rfl, rfl⟩
  | true =>
    rw [if_pos rfl, replyOk_quiet (by exact hq)]
    exact ⟨rfl, rfl, rfl, rfl, rfl, rfl, rfl, rfl, rfl⟩

/-- Settles O47: both begin a round; SEEK takes the slot and replies first. -/
theorem roundsBegin : Obligations.RoundsBegin := by
  refine ⟨fun tag args as s ha ht ⟨b, hm⟩ => ?_, fun s r hw hr => ?_⟩
  · have h : Yields (.seek tag args) s (seekVerb tag as s.toPart) := yields_owner (v := .seek) rfl ha ht (hm ▸ rfl)
    refine ⟨fun h0 hc => ?_, fun hform => ⟨fun hs => ?_, fun hs => ⟨_, h, ?_⟩⟩⟩
    · rwa [seekVerb_form h0 hc, refuse_quiet ht.1] at h
    · rwa [seekVerb_judged hform, if_pos (slotHeld_of_ne hs), refuse_quiet ht.1] at h
    · rw [seekVerb_judged hform, if_neg (by simp [not_slotHeld hs]), seekTaken]
      obtain ⟨q, hq, hcon, hspent, hcount, hmmp, hmck, hldr, hrlu, hsst, htgt⟩ := seekCleared ht.1 (decide (as ≠ [])) tag
      rw [hq]
      have hb := roundBegun_beginRun (p := q) .seek tag
      obtain ⟨hfree, hbusy⟩ := answered_sending { record := some (accepted 0 tag []) } s.con
      refine ⟨hb.lastRound, fun h0 => ?_, fun h0 => ?_, fun run hrun => ?_, fun hrun => ?_, fun hx => ?_, fun hx => ?_,
        hb.mmp.trans hmmp, hb.mck.trans hmck, hb.ldr.trans hldr, hb.rlu.trans hrlu, hb.sst.trans hsst, hb.tgt.trans htgt⟩
      · exact ⟨hb.spent.trans (hspent.trans (by simp [h0])), hb.releaseCount.trans (hcount.trans (by simp [h0]))⟩
      · exact ⟨hb.spent.trans (hspent.trans (by simp [h0])), hb.releaseCount.trans (hcount.trans (by simp [h0]))⟩
      · exact hb.goesOn run hrun
      · obtain ⟨hslot, hmode, h0, hle⟩ := hb.ended hrun
        have hmax : q.sst.settings.maxrounds = 1 := Nat.le_antisymm hle (Nat.one_le_iff_ne_zero.mpr h0)
        exact ⟨hslot, hmode, by rw [← hsst, hmax]⟩
      · exact (hb.sending _ ((congrArg Console.tx hcon).trans (hfree hx))).1
      · obtain ⟨j, hj⟩ := Option.ne_none_iff_exists'.mp hx
        obtain ⟨htx, hreplies⟩ := hbusy j hj
        obtain ⟨htx', hreplies'⟩ := hb.sending j ((congrArg Console.tx hcon).trans htx)
        exact ⟨htx'.trans hj.symm, hreplies'.trans ((congrArg Console.replies hcon).trans hreplies)⟩
  · have h : Yields .roundWaitExpiry s (waitExpiry s.toPart) := rfl
    rw [waitExpiry_running hw hr] at h
    have hb := roundBegun_beginRound hr (min 0xFFFF (r.round + 1))
    refine ⟨_, h, hb.lastRound, hb.spent, hb.releaseCount, fun run hrun => ?_, fun hrun => ?_, hb.mmp, hb.mck, hb.ldr, hb.rlu,
      hb.sst, hb.tgt⟩
    · obtain ⟨ho, ht, hn, hs, -⟩ := hb.goesOn run hrun
      exact ⟨ho, ht, hn.trans hb.lastRound.symm, hs⟩
    · obtain ⟨hs, hm, h0, hle⟩ := hb.ended hrun
      exact ⟨hs, hm, h0, Nat.le_trans hle (Nat.le_of_eq hb.lastRound.symm)⟩

/-! ### A window that fails (R62, R123 to R125) -/

theorem outcome_name {o : AttemptOutcome} (h : o = .confirmTimeout ∨ o = .reverted) :
    o.name = if o = .reverted then "REVERTED" else "CONFIRM-TIMEOUT" := by
  obtain rfl | rfl := h <;> rfl

/-- A failed window, before what follows it (R62, R125). -/
def failedWindow (r : Released) (o : AttemptOutcome) (p : Part) : Part :=
  raise 712 r.tag [.num r.key.port.num, .num r.key.unit, .num r.key.imageId.toNat, .word o.name]
    { records r.tag r.fields o none (some r.key.imageId) (heldPart p) with
      sre := { logged r.fields o none (some r.key.imageId) p.sre with spent := pushBounded 8 p.sre.spent r.key } }

theorem failWindow_manual {r : Released} (hr : p.rlu.released = some r) (hi : p.ldr.image = .released) (hk : r.kind = .manual)
    (o : AttemptOutcome) : failWindow o p = slotGivenBack (failedWindow r o p) := by
  rw [failWindow, hr, holdTarget_released hi]
  dsimp only
  rw [hk]
  rfl

theorem failWindow_automatic {r : Released} (hr : p.rlu.released = some r) (hi : p.ldr.image = .released)
    (hk : r.kind = .automatic) (o : AttemptOutcome) : failWindow o p = beginRun .fallback r.tag (failedWindow r o p) := by
  rw [failWindow, hr, holdTarget_released hi]
  dsimp only
  rw [hk]
  rfl

/-- Settles O46: the hold and what it records, then MANUAL IDLE or the fallback run. -/
theorem failedWindowsFallBack : Obligations.FailedWindowsFallBack := by
  rintro s c o r failed hc hr hi rfl
  have h : Yields c s (failWindow o s.toPart) := by
    obtain ⟨rfl, rfl, hw⟩ | ⟨rfl, rfl, hw⟩ := hc
    · have h : Yields .windowExpiry s (windowExpiry s.toPart) := rfl
      rwa [windowExpiry, if_pos (Option.isSome_iff_ne_none.mpr hw)] at h
    · have h : Yields .targetRecordSent s (targetSent s.toPart) := rfl
      obtain ⟨i, hi, ha⟩ := Option.map_eq_some_iff.mp hw
      rwa [targetSent_revert hi ha] at h
  have hname := outcome_name (hc.imp (fun x => x.2.1) fun x => x.2.1)
  refine ⟨fun hk => ?_, fun hk => ?_⟩
  · rwa [failWindow_manual hr hi hk, failedWindow, hname] at h
  · rw [failWindow_automatic hr hi hk, failedWindow, hname] at h
    refine ⟨h, _, h, ?_⟩
    have hb := roundBegun_beginRun (p := failedWindow r o s.toPart) .fallback r.tag
    rw [failedWindow, hname] at hb
    refine ⟨hb.lastRound, hb.spent, hb.releaseCount, fun run hrun => ?_, fun hrun => ?_, hb.rlu, hb.ldr, hb.tgt, hb.sst, hb.mck,
      hb.mmp⟩
    · obtain ⟨ho, ht, hn, hs, -⟩ := hb.goesOn run hrun
      exact ⟨ho, ht, hn.trans hb.lastRound.symm, hs⟩
    · obtain ⟨hs, hm, h0, hle⟩ := hb.ended hrun
      exact ⟨hs, hm, h0, Nat.le_trans hle (Nat.le_of_eq hb.lastRound.symm)⟩

end Sys2Proof.Proofs

/-! PROOFS. The walk of a round: the order of its units, what follows an attempt, and a round over ports of kind NONE (R44, R45, R48,
R49). -/

namespace Sys2Proof.Proofs

open Sys2Proof Sys2Proof.Machine

-- One proof after another: all of them at once would take a thread and its stack each.
set_option Elab.async false

/-! ### The units of a round in order (R44) -/

/-- A position of the walk as the entry's number, its entry and the unit. -/
def visitOf (x : Position) : Nat × BootEntry × Nat := (x.entry, x.spec, x.unit)

theorem passPositions_visits (pass : Pass) (resort : Bool) (k : Nat) (es : List BootEntry) :
    (passPositions pass resort k es).map visitOf =
      (es.mapIdx fun i e => (k + i, e)).flatMap fun x =>
        if x.2.lastResort = resort then (List.range (x.2.last + 1 - x.2.first)).map fun j => (x.1, x.2, x.2.first + j) else [] := by
  induction es generalizing k with
  | nil => rfl
  | cons e es ih =>
    rw [passPositions, List.map_append, ih, List.mapIdx_cons, List.flatMap_cons]
    congr 1
    · by_cases h : e.lastResort = resort
      · simp only [h, if_true, List.map_map]
        rfl
      · simp only [h, if_false, List.map_nil]
    · simp only [Nat.add_assoc, Nat.add_comm 1]

/-- The walk takes the units in the order of the round. -/
theorem roundPositions_visits (order : List BootEntry) : (roundPositions order).map visitOf = roundVisits order := by
  rw [roundPositions, List.map_append, passPositions_visits, passPositions_visits, roundVisits]
  simp only [Nat.add_comm 1, List.flatMap_cons, List.flatMap_nil, List.append_nil]

theorem mem_passPositions {pass : Pass} {resort : Bool} {k : Nat} {es : List BootEntry} {x : Position}
    (h : x ∈ passPositions pass resort k es) :
    x.pass = pass ∧ x.spec.lastResort = resort ∧ ∃ i, x.entry = k + i ∧ es[i]? = some x.spec := by
  induction es generalizing k with
  | nil => cases h
  | cons e es ih =>
    rw [passPositions, List.mem_append] at h
    obtain h | h := h
    · split at h
      · obtain ⟨j, -, rfl⟩ := List.mem_map.mp h
        exact ⟨rfl, ‹_›, 0, rfl, rfl⟩
      · cases h
    · obtain ⟨hp, hr, i, hi, he⟩ := ih h
      exact ⟨hp, hr, i + 1, by omega, he⟩

theorem mem_roundPositions {order : List BootEntry} {x : Position} (h : x ∈ roundPositions order) :
    1 ≤ x.entry ∧ order[x.entry - 1]? = some x.spec ∧ x.pass = if x.spec.lastResort then .lastResort else .normal := by
  obtain h | h := List.mem_append.mp h
  · obtain ⟨hp, hr, i, hi, he⟩ := mem_passPositions h
    exact ⟨by omega, by rwa [hi, Nat.add_sub_cancel_left], by rw [hp, hr]; rfl⟩
  · obtain ⟨hp, hr, i, hi, he⟩ := mem_passPositions h
    exact ⟨by omega, by rwa [hi, Nat.add_sub_cancel_left], by rw [hp, hr]; rfl⟩

/-- The units still to visit are those after the first visit of the run's entry and unit. -/
theorem positionsAfter_visits {r : SearchRun} {order : List BootEntry} {e : BootEntry} {past rest : List (Nat × BootEntry × Nat)}
    (h : roundVisits order = past ++ (r.entry, e, r.unit) :: rest) (hpast : ∀ x ∈ past, x.1 ≠ r.entry ∨ x.2.2 ≠ r.unit) :
    (positionsAfter r order).map visitOf = rest ∧ ∀ x ∈ positionsAfter r order, x ∈ roundPositions order := by
  rw [← roundPositions_visits] at h
  obtain ⟨pre, post, hpos, rfl, hpost⟩ := List.map_eq_append_iff.mp h
  obtain ⟨x, xs, rfl, hx, rfl⟩ := List.map_eq_cons_iff.mp hpost
  obtain ⟨hentry, hunit⟩ : x.entry = r.entry ∧ x.unit = r.unit := by
    simp only [visitOf, Prod.mk.injEq] at hx
    exact ⟨hx.1, hx.2.2⟩
  have hdrop : positionsAfter r order = xs := by
    rw [positionsAfter, hpos, List.dropWhile_append_of_pos, List.dropWhile_cons_of_neg]
    · rfl
    · simp [hentry, hunit]
    · intro y hy
      simpa [visitOf] using hpast (visitOf y) (List.mem_map_of_mem hy)
  rw [hdrop, hpos]
  exact ⟨rfl, fun y hy => by simp [hy]⟩

/-! ### Requests to a unit that an exchange reaches (R7, R8) -/

section Requests

variable {p : Part} {port : Port} {e : PortEntry} {u : Nat}

theorem requestProbe_reachable (he : entryOf p port = some e) (h : reachable e u) (rq : Requester) :
    requestProbe port u rq p = (setEntry port (probing e u rq) p, none) := by
  obtain ⟨hu, hf, hc⟩ := h
  have hcard : ¬ (e.kind = .card ∧ e.cardPresent = false) := fun hx => by cases hx.2.symm.trans (hc hx.1)
  simp only [requestProbe, he, if_neg (Nat.not_le.mpr hu), if_neg hf, if_neg hcard]
  rfl

theorem readPrecondition_readable {block : Nat} (h : readable e u block) : readPrecondition e u block = none := by
  obtain ⟨⟨hu, hf, hc⟩, c, hunit, hblock⟩ := h
  have hcard : ¬ (e.kind = .card ∧ e.cardPresent = false) := fun hx => by cases hx.2.symm.trans (hc hx.1)
  rw [readPrecondition, if_neg hf, if_neg (Nat.not_le.mpr hu), if_neg hcard, hunit]
  simp [hblock]

theorem requestRead_readable {block : Nat} (he : entryOf p port = some e) (h : readable e u block) (rq : Requester) :
    requestRead port u block rq p = (setEntry port (reading e u block p.sst.settings.retries 0 rq) p, none) := by
  simp only [requestRead, he, readPrecondition_readable h]
  rfl

end Requests

/-! ### What follows an attempt (R44, R45, R48) -/

section Walk

variable {p : Part} {r : SearchRun}

theorem startAttempt_reachable {port : Port} {pe : PortEntry} {unit : Nat} (hr : p.sre.run = some r)
    (he : entryOf p port = some pe) (hreach : reachable pe unit) :
    startAttempt port unit p =
      (setEntry port (probing pe unit .search) (runStands { r with stage := .probing } .search p), none) := by
  have hq : setMode (.auto .search) (setRun (fun r => { r with stage := .probing }) p) =
      runStands { r with stage := .probing } .search p := by
    simp only [setMode, setRun, setSre, hr]
    rfl
  have he' : entryOf (runStands { r with stage := .probing } .search p) port = some pe := he
  rw [startAttempt, hq]
  simp only [he', if_neg (Nat.not_le.mpr hreach.1), followTo, requestProbe_reachable he' hreach]

theorem tryUnit_reachable {x : Position} {pe : PortEntry} {n : Nat} (hn : 1 ≤ n) (hr : p.sre.run = some r)
    (he : entryOf p x.spec.port = some pe) (hreach : reachable pe x.unit) :
    tryUnit x n p =
      (setEntry x.spec.port (probing pe x.unit .search) (runStands { r with stage := .probing } .search p), true) := by
  obtain ⟨n, rfl⟩ := Nat.exists_eq_add_of_le' hn
  rw [tryUnit, startAttempt_reachable hr he hreach]

theorem walk_reachable {x : Position} {xs : List Position} {pe : PortEntry} (hn : 1 ≤ x.spec.tries) (hr : p.sre.run = some r)
    (he : entryOf p x.spec.port = some pe) (hreach : reachable pe x.unit) :
    walk (x :: xs) p =
      (setEntry x.spec.port (probing pe x.unit .search)
        (runStands { r with pass := x.pass, entry := x.entry, unit := x.unit, triesUsed := 0, stage := .probing } .search p),
        true) := by
  have hm : (moveTo x p).sre.run = some { r with pass := x.pass, entry := x.entry, unit := x.unit, triesUsed := 0 } := by
    simp only [moveTo, setRun, setSre, hr]
    rfl
  rw [walk, tryUnit_reachable hn hm (by exact he) hreach]
  rfl

theorem countTry_run (hr : p.sre.run = some r) :
    countTry p = { p with sre := { p.sre with run := some { r with triesUsed := r.triesUsed + 1 } } } := by
  simp only [countTry, setRun, setSre, hr]
  rfl

theorem transient_iff (o : AttemptOutcome) : o.transient = true ↔ o ∈ transientOutcomes := by
  cases o <;> decide

theorem currentEntry_run {e : BootEntry} (hr : p.sre.run = some r) (h1 : 1 ≤ r.entry)
    (he : p.sst.settings.order[r.entry - 1]? = some e) : currentEntry p = some e := by
  rw [currentEntry, hr]
  simp only [if_neg (by omega : ¬ r.entry = 0), he]

/-- An attempt that goes on to the next unit of the walk, or to the end of the round. -/
theorem afterAttempt_done {e : BootEntry} {o : AttemptOutcome} (hr : p.sre.run = some r) (he : currentEntry p = some e)
    (ho : o ∉ transientOutcomes ∨ e.tries ≤ r.triesUsed) :
    afterAttempt o p = walkOn (positionsAfter r p.sst.settings.order) (setMode (.auto .search) p) := by
  simp only [afterAttempt, hr, he]
  by_cases htrans : o.transient = true
  · have hle : e.tries - r.triesUsed = 0 := Nat.sub_eq_zero_of_le (ho.resolve_left fun h => h ((transient_iff o).mp htrans))
    rw [if_pos htrans, hle, tryUnit]
    rfl
  · rw [if_neg htrans]

theorem afterAttempt_again {e : BootEntry} {o : AttemptOutcome} {pe : PortEntry} (hr : p.sre.run = some r)
    (he : currentEntry p = some e) (ho : o ∈ transientOutcomes) (hlt : r.triesUsed < e.tries) (hpe : entryOf p e.port = some pe)
    (hreach : reachable pe r.unit) :
    afterAttempt o p = setEntry e.port (probing pe r.unit .search) (runStands { r with stage := .probing } .search p) := by
  simp only [afterAttempt, hr, he, if_pos ((transient_iff o).mpr ho)]
  rw [tryUnit_reachable (x := ⟨r.pass, r.entry, r.unit, e⟩) (by omega) hr hpe hreach]
  rfl

/-- The walk goes on after an attempt as `walkGoesOn` says (R44, R48). -/
theorem walkGoesOn_afterAttempt (o : AttemptOutcome) : walkGoesOn o p (afterAttempt o (countTry p)) := by
  rintro r counted e hr h1 he rfl
  rw [countTry_run hr]
  have hcur := currentEntry_run (p := { p with sre := { p.sre with run := some { r with triesUsed := r.triesUsed + 1 } } }) rfl h1 he
  refine ⟨fun ho hlt pe hpe hreach => ?_, fun ho past rest hvisits hpast => ?_⟩
  · exact afterAttempt_again (r := { r with triesUsed := r.triesUsed + 1 }) rfl hcur ho hlt hpe hreach
  · rw [afterAttempt_done (r := { r with triesUsed := r.triesUsed + 1 }) rfl hcur ho]
    obtain ⟨hrest, hmem⟩ := positionsAfter_visits (r := { r with triesUsed := r.triesUsed + 1 }) hvisits hpast
    generalize positionsAfter { r with triesUsed := r.triesUsed + 1 } p.sst.settings.order = xs at hrest hmem
    refine ⟨?_, ?_⟩
    · rintro k e' u after pe rfl htries hpe hreach
      obtain ⟨x, xs, rfl, hx, -⟩ := List.map_eq_cons_iff.mp hrest
      obtain ⟨-, -, hpass⟩ := mem_roundPositions (hmem x (by simp))
      cases hx
      rw [walkOn, walk_reachable htries rfl (by exact hpe) hreach, hpass]
      rfl
    · rintro rfl
      obtain rfl := List.map_eq_nil_iff.mp hrest
      rintro maxrounds rfl
      exact roundEnds_endRound (p := setMode (.auto .search)
        { p with sre := { p.sre with run := some { r with triesUsed := r.triesUsed + 1 } } }) rfl _ rfl

theorem runFields_run {e : BootEntry} (hr : p.sre.run = some r) (he : currentEntry p = some e) :
    runFields p = ⟨r.round, r.entry, e.port, r.unit⟩ := by
  simp only [runFields, he, hr]
  rfl

theorem appendRunRecord_run {e : BootEntry} (hr : p.sre.run = some r) (he : currentEntry p = some e) (o : AttemptOutcome)
    (d : Option Nat) (i : Option Word32) :
    appendRunRecord o d i p = records r.tag ⟨r.round, r.entry, e.port, r.unit⟩ o d i p := by
  rw [appendRunRecord, runFields_run hr he, runTagOf, hr]
  rfl

/-- An attempt ends as `attemptEnds` says (R45 to R48). -/
theorem attemptEnds_endAttempt (o : AttemptOutcome) (d : Option Nat) (i : Option Word32) :
    attemptEnds o d i p (endAttempt o d i p) := by
  intro r e hr he h1
  rw [endAttempt, appendRunRecord_run hr (currentEntry_run hr h1 he)]
  exact walkGoesOn_afterAttempt o

end Walk

/-! ### A round over ports of kind NONE (R44, R45, R49) -/

/-- Every port is of kind NONE. -/
def AllUnused (p : Part) : Prop := ∀ port, ∃ e, entryOf p port = some e ∧ e.kind = .unused

theorem AllUnused.clearFault {p : Part} (h : AllUnused p) (port : Port) : AllUnused (clearFault port p) := by
  obtain ⟨e, he, hk⟩ := h port
  simp only [Machine.clearFault, he]
  split
  · intro other
    by_cases ho : other = port
    · subst ho
      exact ⟨_, entryOf_setEntry_self (e' := { e with state := .idle, count := 0 }) he, hk⟩
    · obtain ⟨e', he', hk'⟩ := h other
      exact ⟨e', (entryOf_setEntry_of_ne { e with state := .idle, count := 0 } ho).trans he', hk'⟩
  · exact h

theorem AllUnused.clearFaults {p : Part} (h : AllUnused p) : AllUnused (clearFaults p) :=
  (((h.clearFault .sp0).clearFault .sp1).clearFault .sp2).clearFault .sp3

theorem clearFault_sre (port : Port) (p : Part) : (clearFault port p).sre = p.sre := by
  obtain ⟨x, c, h⟩ := clearFault_eq port p
  rw [h]

theorem clearFaults_sre (p : Part) : (clearFaults p).sre = p.sre :=
  (clearFault_sre .sp3 _).trans ((clearFault_sre .sp2 _).trans ((clearFault_sre .sp1 _).trans (clearFault_sre .sp0 p)))

/-- The attempt log and the next number once a unit has been found NOT-PRESENT in round n (R45, R56). -/
def visitLogged (n : Nat) (l : List AttemptRecord × Nat) (x : Position) : List AttemptRecord × Nat :=
  (pushBounded 32 l.1 ⟨l.2, ⟨n, x.entry, x.spec.port, x.unit⟩, .notPresent, none, none⟩, nextSequence l.2)

section Unused

variable {p : Part} {r : SearchRun}

theorem startAttempt_unused {port : Port} (unit : Nat) (hp : AllUnused p) (hr : p.sre.run = some r) :
    startAttempt port unit p = (runStands { r with stage := .probing } .search p, some .notPresent) := by
  obtain ⟨e, he, hk⟩ := hp port
  have hq : setMode (.auto .search) (setRun (fun r => { r with stage := .probing }) p) =
      runStands { r with stage := .probing } .search p := by
    simp only [setMode, setRun, setSre, hr]
    rfl
  have he' : entryOf (runStands { r with stage := .probing } .search p) port = some e := he
  rw [startAttempt, hq]
  simp only [he', hk, PortKind.units, Nat.zero_le, if_true]

/-- The part once a unit of a port of kind NONE has been visited. -/
def visited (x : Position) (r : SearchRun) (p : Part) : Part :=
  countTry (records r.tag ⟨r.round, x.entry, x.spec.port, x.unit⟩ .notPresent none none
    (runStands { r with pass := x.pass, entry := x.entry, unit := x.unit, triesUsed := 0, stage := .probing } .search p))

theorem tryUnit_unused {x : Position} (hp : AllUnused p) (hr : p.sre.run = some r) (h1 : 1 ≤ x.entry)
    (he : p.sst.settings.order[x.entry - 1]? = some x.spec) (hn : 1 ≤ x.spec.tries) :
    tryUnit x x.spec.tries (moveTo x p) = (visited x r p, false) := by
  have hm : moveTo x p =
      { p with sre :=
        { p.sre with run := some { r with pass := x.pass, entry := x.entry, unit := x.unit, triesUsed := 0 } } } := by
    simp only [moveTo, setRun, setSre, hr]
    rfl
  obtain ⟨n, hn⟩ := Nat.exists_eq_add_of_le' hn
  rw [hn, tryUnit, hm, startAttempt_unused _ (by exact hp) rfl]
  dsimp only
  rw [appendRunRecord_run (e := x.spec)
    (r := { r with pass := x.pass, entry := x.entry, unit := x.unit, triesUsed := 0, stage := .probing }) rfl
    (currentEntry_run rfl h1 he)]
  rfl

/-- A walk over units of ports of kind NONE logs each of them and comes to the end. -/
theorem walk_unused {xs : List Position} (hp : AllUnused p) (hr : p.sre.run = some r)
    (hxs : ∀ x ∈ xs, 1 ≤ x.entry ∧ p.sst.settings.order[x.entry - 1]? = some x.spec ∧ 1 ≤ x.spec.tries) :
    (walk xs p).2 = false ∧
      ((walk xs p).1.sre.log, (walk xs p).1.sre.nextSeq) = xs.foldl (visitLogged r.round) (p.sre.log, p.sre.nextSeq) := by
  induction xs generalizing p r with
  | nil => exact ⟨rfl, rfl⟩
  | cons x xs ih =>
    obtain ⟨h1, he, hn⟩ := hxs x (by simp)
    rw [walk, tryUnit_unused hp hr h1 he hn]
    exact ih (p := visited x r p)
      (r := { r with pass := x.pass, entry := x.entry, unit := x.unit, triesUsed := 1, stage := .probing }) hp rfl
      fun y hy => hxs y (List.mem_cons_of_mem x hy)

end Unused

/-- Settles O48: no unit is reached, so the walk logs each of them in turn, and the round ends. -/
theorem aRoundVisitsEveryUnitInOrder : Obligations.ARoundVisitsEveryUnitInOrder := by
  rintro s t4 r hw hr hports hkinds htries visits n rfl rfl
  have h : Yields .roundWaitExpiry s (waitExpiry s.toPart) := rfl
  rw [waitExpiry_running hw hr, beginRound_run hr] at h
  generalize hn : min 0xFFFF (r.round + 1) = n at h ⊢
  have hunused : AllUnused (clearFaults (atRound n r s.toPart)) :=
    AllUnused.clearFaults fun port => ⟨t4.get port, by simp [entryOf, atRound, runStands, hports], hkinds port⟩
  have hkeeps : RoundKeeps (atRound n r s.toPart) (clearFaults (atRound n r s.toPart)) := .clearFaults
  have hsre := clearFaults_sre (atRound n r s.toPart)
  generalize clearFaults (atRound n r s.toPart) = q at h hunused hkeeps hsre
  have horder : q.sst.settings.order = s.sst.settings.order := by rw [hkeeps.sst]; rfl
  rw [horder] at h
  obtain ⟨hfalse, hlog⟩ := walk_unused (xs := roundPositions s.sst.settings.order) (r := runAtRound n r) hunused
    (by rw [hsre]; rfl) fun x hx => by
      obtain ⟨h1, he, -⟩ := mem_roundPositions hx
      exact ⟨h1, by rw [horder, he], htries _ (List.mem_of_getElem? he)⟩
  have hk : RoundKeeps q (walk (roundPositions s.sst.settings.order) q).1 := .walk _
  rw [walkOn, if_neg (by simp [hfalse])] at h
  generalize (walk (roundPositions s.sst.settings.order) q).1 = w at h hlog hk
  have hsst : w.sst = s.sst := hk.sst.trans hkeeps.sst
  obtain ⟨r', hr', hkey⟩ := Option.map_eq_some_iff.mp (hk.run.trans (by rw [hsre]; rfl))
  obtain ⟨-, -, hround⟩ : r'.origin = r.origin ∧ r'.tag = r.tag ∧ r'.round = n := by simpa [runKey, runAtRound] using hkey
  obtain ⟨hover, hwait⟩ := roundEnds_endRound hr' _ rfl
  rw [hsst, hround] at hover hwait
  have hvisits : (w.sre.log, w.sre.nextSeq) =
      ((roundPositions s.sst.settings.order).map visitOf).foldl
        (fun (log, seq) x =>
          (pushBounded 32 log ⟨seq, ⟨n, x.1, x.2.1.port, x.2.2⟩, .notPresent, none, none⟩, nextSequence seq))
        (s.sre.log, s.sre.nextSeq) := by
    rw [hlog, hsre, List.foldl_map]
    rfl
  rw [roundPositions_visits] at hvisits
  by_cases hmax : s.sst.settings.maxrounds ≠ 0 ∧ s.sst.settings.maxrounds ≤ n
  · rw [hover hmax.1 hmax.2] at h
    exact ⟨_, h, hvisits, fun hno => absurd hno (by omega), fun _ => ⟨rfl, rfl, rfl⟩⟩
  · rw [hwait (by omega)] at h
    exact ⟨_, h, hvisits, fun _ => ⟨rfl, rfl, rfl, rfl⟩, fun hno => absurd hno hmax⟩

end Sys2Proof.Proofs

/-! PROOFS. The course of a load: its requests, the segments, the read-back, the handoff record, its end and its faults (R99 to R111). -/

namespace Sys2Proof.Proofs

open Sys2Proof Sys2Proof.Machine

/-! ### The requests of a load (R103, R105, R106) -/

section Requests

variable {plan : LoadPlan} {p : Part}

theorem loadTxn_taken {kind : TxnKind} {c : LoadCursor} (h : judgeTxn kind c.address p = none) :
    loadTxn kind plan c p = (inFlight kind c.address .loader (planAt plan c p), none) := by
  rw [loadTxn, requestTxn_taken (by exact h)]
  rfl

theorem loadBlock_readable {c : LoadCursor} {g : Segment} {e : PortEntry} (he : entryOf p plan.image.port = some e)
    (h : readable e plan.image.unit c.block) :
    loadBlock plan c g p =
      (setEntry plan.image.port (reading e plan.image.unit c.block p.sst.settings.retries 0 .loader) (planAt plan c p), none) := by
  rw [loadBlock, requestRead_readable (by exact he) h]
  rfl

theorem index_of_segmentAt {k : Nat} {i : Image} {g : Segment} (h : segmentAt k i = some g) : g.index = k := by
  simpa using List.find?_some h

/-- The writes of a segment begin as `segmentBegins` says (R102, R103). -/
theorem segmentBegins_writeSegment {k : Nat} {g : Segment} (hg : segmentAt k plan.image = some g) (f : LoadEnd → Part → Part) :
    segmentBegins plan g p (follow (writeSegment k plan p) f) := by
  have hk := index_of_segmentAt hg
  refine ⟨fun hfill hj => ?_, fun b e hdata he hread => ?_⟩
  · rw [writeSegment, hg]
    simp only [hfill]
    rw [loadTxn_taken (by exact hj), hk]
    rfl
  · rw [writeSegment, hg]
    simp only [hdata]
    rw [loadBlock_readable he (by exact hread), hk]
    rfl

/-- A load begins as `loadBegins` says (R101). -/
theorem loadBegins_beginLoad (image : Image) (fields : AttemptFields) (reason : BootReason) (rq : LoadRequester)
    (tag : Option Tag) (f : LoadEnd → Part → Part) :
    loadBegins image fields reason rq tag p (follow (beginLoad image fields reason rq tag p) f) := by
  rintro g plan hg rfl
  exact segmentBegins_writeSegment hg f

end Requests

/-! ### The end of a load (R109, R110) -/

section Ends

variable {plan : LoadPlan} {p : Part}

/-- A load fails as `loadFails` says (R48, R110). -/
theorem loadFails_failLoad (o : AttemptOutcome) (detail : Nat) :
    loadFails plan o detail p (followLoad plan (failLoad plan o detail p)) := by
  rintro failed rfl
  refine ⟨fun hr => ?_, fun hr => ?_⟩
  · cases hq : plan.requester with
    | search => exact absurd hq hr
    | boot => simp only [followLoad, failLoad, follow, hq]; rfl
    | stage => simp only [followLoad, failLoad, follow, hq]; rfl
  · simp only [followLoad, failLoad, follow, hr, deliverLoadEnd, searchLoadEnd]
    exact walkGoesOn_afterAttempt o

/-- The part once a load is complete: STAGED, with its LOADED record (R109). -/
def loadedPart (plan : LoadPlan) (p : Part) : Part :=
  records plan.tag plan.fields .loaded none (some plan.image.imageId)
    { p with ldr := { p.ldr with image := .staged, plan := some { plan with cursor := none } } }

theorem completeLoad_stage (hr : plan.requester = .stage) :
    completeLoad plan p = (raise 701 plan.tag plan.image.key.fields (loadedPart plan p), some .loaded) :=
  Prod.ext (if_pos hr) rfl

theorem completeLoad_release (hr : plan.requester ≠ .stage) : completeLoad plan p = (loadedPart plan p, some .loaded) :=
  Prod.ext (if_neg hr) rfl

theorem runTagOf_loadedPart {r : SearchRun} (hr : p.sre.run = some r) : runTagOf (loadedPart plan p) = r.tag := by
  have hrun : (loadedPart plan p).sre.run = some r := hr
  rw [runTagOf, hrun]
  rfl

theorem releases_loaded (kind : ReleaseKind) (tag : Option Tag) :
    releases kind tag plan (loadedPart plan p) (release kind tag (loadedPart plan p)) :=
  releases_release (plan := { plan with cursor := none }) rfl kind tag

/-- A load completes as `loadCompletes` says (R47, R109, R131). -/
theorem loadCompletes_completeLoad : loadCompletes plan p (followLoad plan (completeLoad plan p)) := by
  intro done hdone
  obtain rfl : done = loadedPart plan p := hdone
  refine ⟨fun hr => ?_, fun hr => ?_, fun r hr hrun => ?_⟩
  · rw [completeLoad_stage hr, followLoad, follow, hr]
    rfl
  · rw [completeLoad_release (by simp [hr]), followLoad, follow, hr]
    exact releases_loaded .manual plan.tag
  · rw [completeLoad_release (by simp [hr]), followLoad, follow, hr]
    simp only [deliverLoadEnd, searchLoadEnd]
    rw [endRun_release, runTagOf_loadedPart hrun]
    exact releases_release (plan := { plan with cursor := none }) rfl .automatic r.tag

/-- The HANDOFF stage begins as `handoffBegins` says (R108). -/
theorem handoffBegins_beginHandoff : handoffBegins plan p (followLoad plan (beginHandoff plan p)) := by
  refine ⟨fun hn => ?_, fun h hs hj => ?_⟩
  · rw [beginHandoff, hn]
    exact loadCompletes_completeLoad
  · rw [beginHandoff, hs]
    dsimp only
    rw [loadTxn_taken (by exact hj)]
    rfl

/-- A segment that the read-back from an index on passes by (R107). -/
theorem not_dataSegment {k : Nat} {x : Segment} (h : x.index ≤ k ∨ x.source = none) :
    ¬(decide (k + 1 ≤ x.index) && x.source.isSome) = true := by
  rw [Bool.and_eq_true, decide_eq_true_eq]
  rintro ⟨hk, hs⟩
  obtain h | h := h
  · omega
  · rw [h] at hs
    cases hs

/-- The read-back goes on as `readBackFollows` says (R107). -/
theorem readBackFollows_verifyFrom (k : Nat) : readBackFollows k plan p (followLoad plan (verifyFrom (k + 1) plan p)) := by
  refine ⟨fun past g rest b hs hpast hk hb hj => ?_, fun hall => ?_⟩
  · have hfind : dataSegmentFrom (k + 1) plan.image = some g := by
      rw [dataSegmentFrom, hs, List.find?_append, List.find?_eq_none.mpr, List.find?_cons_of_pos]
      · rfl
      · exact Bool.and_eq_true_iff.mpr ⟨decide_eq_true hk, by rw [hb]; rfl⟩
      · exact fun x hx => not_dataSegment (hpast x hx)
    rw [verifyFrom, hfind]
    dsimp only
    rw [loadTxn_taken (by exact hj)]
    rfl
  · have hfind : dataSegmentFrom (k + 1) plan.image = none := by
      rw [dataSegmentFrom, List.find?_eq_none]
      exact fun x hx => not_dataSegment (hall x hx)
    rw [verifyFrom, hfind]
    exact handoffBegins_beginHandoff

/-- What follows the writes of a segment (R101, R107, R108). -/
theorem segmentFollows_writeSegment (k : Nat) : segmentFollows k plan p (followLoad plan (writeSegment (k + 1) plan p)) := by
  refine ⟨fun g hg _ => segmentBegins_writeSegment hg _, fun hn => ⟨fun hv => ?_, fun hv => ?_⟩⟩
  · rw [writeSegment, hn]
    simp only [hv, if_true]
    exact readBackFollows_verifyFrom 0
  · rw [writeSegment, hn]
    simp only [hv]
    exact handoffBegins_beginHandoff

end Ends

/-! ### Outcomes of a load's transactions (R102 to R108) -/

section Outcomes

variable {s : State} {plan : LoadPlan} {cur : LoadCursor} {kind : TxnKind}

theorem loadOutcome_plan {p : Part} (hp : p.ldr.plan = some plan) (hc : plan.cursor = some cur) (ha : p.sup.abortPending = false)
    (o : TxnOutcome) (a : Nat) : loadOutcome o a p = followLoad plan (loaderOutcome o plan cur p) := by
  simp only [loadOutcome, ha, hp, hc]
  rfl

theorem defectiveAt_of_region {p : Part} {a : Nat} {i : Idx} (h : regionAt p.sst.settings.map a = some i) :
    defectiveAt a p = setHealth i .defective p := by
  rw [defectiveAt, h]

/-- The outcome DONE of the load's transaction. -/
theorem yields_loadDone (hp : s.ldr.plan = some plan) (hc : plan.cursor = some cur)
    (ht : s.mmp.txn = some ⟨kind, cur.address, .loader⟩) (ha : s.sup.abortPending = false) (w : Word32) :
    Yields (.memoryResponse true false w) s
      (followLoad plan (loaderOutcome (.done (match kind with | .read => w | .write _ => 0)) plan cur (endTxn s.toPart))) := by
  have h := yields_done ht w
  rw [txnEnded, loadOutcome_plan (by exact hp) hc (by exact ha)] at h
  cases kind <;> exact h

/-- A fault of the load's transaction (R106). -/
theorem yields_loadFault (hp : s.ldr.plan = some plan) (hc : plan.cursor = some cur)
    (ht : s.mmp.txn = some ⟨kind, cur.address, .loader⟩) (ha : s.sup.abortPending = false) {w : Word32} {c : Instr} {i : Idx}
    (h : c = .responseTimeout ∨ ∃ mrdy, c = .memoryResponse mrdy true w) (hi : regionAt s.sst.settings.map cur.address = some i) :
    Yields c s
      (followLoad plan (failLoad plan .memoryFault cur.address (setHealth i .defective (endTxn s.toPart)))) := by
  obtain rfl | ⟨mrdy, rfl⟩ := h
  · have h := yields_noResponse ht
    rw [txnEnded, loadOutcome_plan (by exact hp) hc (by exact ha), loaderOutcome, defectiveAt_of_region (by exact hi)] at h
    · exact h
    · nofun
  · have h := yields_busError ht mrdy w
    rw [txnEnded, loadOutcome_plan (by exact hp) hc (by exact ha), loaderOutcome, defectiveAt_of_region (by exact hi)] at h
    · exact h
    · nofun

end Outcomes

section Done

variable {plan : LoadPlan} {cur : LoadCursor} {g : Segment} {p : Part} (w : Word32)

theorem loaderOutcome_write (hs : cur.stage = .write) (hg : segmentAt cur.segment plan.image = some g) :
    loaderOutcome (.done w) plan cur p = writeDone plan cur g p := by
  simp only [loaderOutcome, hs, hg]

theorem loaderOutcome_verify (hs : cur.stage = .verify) (hg : segmentAt cur.segment plan.image = some g) :
    loaderOutcome (.done w) plan cur p = verifyDone plan cur g w p := by
  simp only [loaderOutcome, hs, hg]

theorem loaderOutcome_handoff (hs : cur.stage = .handoff) : loaderOutcome (.done w) plan cur p = handoffDone plan cur p := by
  simp only [loaderOutcome, hs]

theorem writeDone_fill (hf : g.source = none) :
    writeDone plan cur g p =
      if cur.address + 4 < g.target + g.length then loadTxn (.write 0) plan { cur with address := cur.address + 4 } p
      else writeSegment (g.index + 1) plan p := by
  simp only [writeDone, hf]

/-- The cursor after a word of a DATA segment (R103, R104). -/
def wordWritten (cur : LoadCursor) : LoadCursor :=
  { cur with address := cur.address + 4, crc := crc32Run cur.crc (cur.buffer.take 4), buffer := cur.buffer.drop 4 }

theorem writeDone_data {b : Nat} (hd : g.source = some b) :
    writeDone plan cur g p =
      if g.target + g.length ≤ cur.address + 4 then endDataSegment plan (wordWritten cur) g p
      else if (wordWritten cur).buffer = [] then loadBlock plan (wordWritten cur) g p
      else loadTxn (.write (bytesWord (wordWritten cur).buffer)) plan (wordWritten cur) p := by
  simp only [writeDone, hd]
  rfl

end Done

/-- Settles O39: each outcome of the load's transaction, by the stage of the load. -/
theorem fillSegmentsAreWrittenWordByWord : Obligations.FillSegmentsAreWrittenWordByWord := by
  refine ⟨fun s plan cur g w hp hc hs hg hf ht ha => ?_, fun s plan cur kind w freed hp hc ht ha hfreed => ?_⟩
  · have h := yields_loadDone hp hc ht ha w
    rw [loaderOutcome_write _ hs hg, writeDone_fill hf] at h
    refine ⟨fun hlt hj => ?_, fun hle next hnext hfill hj => ?_, fun i c hi hr hcmd => ?_⟩
    · rw [if_pos hlt, loadTxn_taken (by exact hj)] at h
      exact h
    · rw [if_neg (Nat.not_lt.mpr hle)] at h
      have hb := (segmentBegins_writeSegment (p := endTxn s.toPart) hnext
        (fun e p => deliverLoadEnd plan.requester plan.tag e p)).1 hfill hj
      rw [followLoad, hb, index_of_segmentAt hnext] at h
      exact h
    · have hy := yields_loadFault hp hc ht ha hcmd hi
      rw [(loadFails_failLoad .memoryFault cur.address _ rfl).1 (by simp [hr])] at hy
      exact hy
  · subst hfreed
    refine ⟨fun c i hcmd hi => ⟨_, yields_loadFault hp hc ht ha hcmd hi, loadFails_failLoad _ _⟩, fun g hg hidx => ?_, ?_⟩
    · refine ⟨fun hs hf hle => ?_, fun b later hs hd hk hlater => ?_, fun later value hs hk hlater hw => ?_⟩
      · have h := yields_loadDone hp hc ht ha w
        rw [loaderOutcome_write _ hs hg, writeDone_fill hf, if_neg (Nat.not_lt.mpr hle)] at h
        exact ⟨_, h, segmentFollows_writeSegment g.index⟩
      · have h := yields_loadDone hp hc ht ha w
        rw [loaderOutcome_write _ hs hg, writeDone_data hd] at h
        obtain rfl : later = wordWritten cur := hlater
        refine ⟨fun hlt => ⟨fun hne hj => ?_, fun e hnil he hread => ?_⟩,
          fun hle value done hvalue hdone => ⟨fun hcrc => ?_, fun x hcrc hx => ?_⟩⟩
        · rw [if_neg (Nat.not_le.mpr hlt), if_neg hne, loadTxn_taken (by exact hj)] at h
          exact h
        · rw [if_neg (Nat.not_le.mpr hlt), if_pos hnil, loadBlock_readable (by exact he) (by exact hread)] at h
          exact h
        · subst hvalue hdone
          rw [if_pos hle, endDataSegment] at h
          rw [if_pos (by obtain hcrc | hcrc := hcrc <;> simp [hcrc])] at h
          exact ⟨_, h, segmentFollows_writeSegment g.index⟩
        · subst hvalue hdone
          rw [if_pos hle, endDataSegment] at h
          rw [if_neg (by simpa [hcrc] using hx)] at h
          exact ⟨_, h, loadFails_failLoad (plan := { plan with written := plan.written ++ [(g.index, crc32Final (wordWritten cur).crc)] }) _ _⟩
      · subst hk
        have h := yields_loadDone hp hc ht ha w
        rw [loaderOutcome_verify _ hs hg, verifyDone] at h
        simp only [hw, Option.map_some, Option.getD_some] at h
        subst hlater
        refine ⟨fun hlt hj => ?_, fun hle => ⟨fun hcrc => ?_, fun i hcrc hi => ?_⟩⟩
        · rw [if_pos hlt, loadTxn_taken (by exact hj)] at h
          exact h
        · rw [if_neg (Nat.not_lt.mpr hle), if_pos (by exact hcrc)] at h
          exact ⟨_, h, readBackFollows_verifyFrom g.index⟩
        · rw [if_neg (Nat.not_lt.mpr hle), if_neg (by exact hcrc), defectiveAt_of_region (by exact hi)] at h
          exact ⟨_, h, loadFails_failLoad _ _⟩
    · rintro later rest hs hh rfl
      have h := yields_loadDone hp hc ht ha w
      rw [loaderOutcome_handoff _ hs, handoffDone] at h
      refine ⟨fun hne hj => ?_, fun hnil => ?_⟩
      · rw [if_neg hne, loadTxn_taken (by exact hj)] at h
        exact h
      · rw [if_pos hnil, hh] at h
        exact ⟨_, h, loadCompletes_completeLoad⟩

end Sys2Proof.Proofs

/-! PROOFS. What the results of port operations give their requesters: the verbs, BOOT and STAGE, the search and the loader (R21, R35,
R45 to R47, R52, R101, R105, R114). -/

namespace Sys2Proof.Proofs

open Sys2Proof Sys2Proof.Machine

-- One proof after another: all of them at once would take a thread and its stack each.
set_option Elab.async false

/-! ### The lines of VOLUME (R36) -/

theorem volumeLines_eq (port : Port) (unit : Nat) (c : Classification) : volumeLines port unit c = volumeReply port unit c := by
  have himage : ∀ i : Image, imageLines i =
      [.word "ENTRY", .num i.entry, .word "HANDOFF", .num (i.handoff.getD 0), .word "CONFIRM", .num i.confirm,
          .word "LABEL", .label (i.label.getD [])] ::
        i.segments.map fun g =>
          [.word "SEG", .num g.index, .num g.target, .num g.length] ++
            (match g.source with
              | some b => [.word "DATA", .num b, .num (g.crc.getD 0).toNat]
              | none => [.word "FILL"]) ++ [.word "REGION", .num g.region.num] := by
    intro i
    refine congrArg (_ :: ·) (List.map_congr_left fun g _ => ?_)
    unfold segmentLine
    cases g.source <;> rfl
  have hline : volumeLine port unit c.volume.name c none =
      [.num port.num, .num unit, .word c.volume.name] ++
        (match c.check with | some n => [.word "CHECK", .word n.name] | none => []) ++
        (match c.segment with | some k => [.word "SEG", .num k] | none => []) ++
        (if c.handoffMark then [.word "HANDOFF"] else []) ++
        (match c.region with | some i => [.word "REGION", .num i.num] | none => []) ++
        (match c.imageId with | some i => [.word "ID", .num i.toNat] | none => []) := by
    unfold volumeLine optPair
    cases c.check <;> cases c.segment <;> cases c.region <;> cases c.imageId <;> simp
  refine List.cons_eq_cons.mpr ⟨hline, ?_⟩
  cases hv : c.volume with
  | bootable =>
    cases hi : c.image with
    | none => rfl
    | some i => exact himage i
  | _ => rfl

/-- The line of a VOLUME that no classification gave. -/
theorem volumeLine_plain (port : Port) (unit : Nat) (outcome : String) (block : Option Nat) :
    volumeLine port unit outcome { volume := .unknown } block =
      [.num port.num, .num unit, .word outcome] ++ (match block with | some b => [.word "BLOCK", .num b] | none => []) := by
  cases block <;> rfl

/-! ### Outcomes (R45, R46) -/

theorem block0Outcome_of_mem {b : Nat} {x : (Nat → ReadResult) × AttemptOutcome × (Nat → Option Nat)} (h : x ∈ block0Outcomes) :
    block0Outcome (x.1 b) = .inl (x.2.1, x.2.2 b) := by
  simp only [block0Outcomes, List.mem_cons, List.not_mem_nil, or_false] at h
  obtain rfl | rfl | rfl | rfl := h <;> rfl

theorem classOutcome_of_mem {c : Classification} {o : AttemptOutcome} {d : Option Nat}
    (h : (c.volume, o, d) ∈ classOutcomes c) :
    classOutcome c = (o, d) ∧ c.volume ≠ .bootable ∧ c.volume ≠ .unknown := by
  simp only [classOutcomes, List.mem_cons, List.not_mem_nil, or_false, Prod.mk.injEq] at h
  obtain ⟨hv, rfl, rfl⟩ | ⟨hv, rfl, rfl⟩ | ⟨hv, rfl, rfl⟩ | ⟨hv, rfl, rfl⟩ | ⟨hv, rfl, rfl⟩ := h <;>
    simp only [classOutcome, hv, ne_eq, reduceCtorEq, not_false_eq_true, and_self]

theorem probeOutcome_of_mem {r : ProbeResult} {o : AttemptOutcome}
    (h : (r, o) ∈ [(ProbeResult.absent, AttemptOutcome.notPresent), (.notReady, .notReady), (.timeout, .notReady)]) :
    probeOutcome r = .inl o := by
  simp only [List.mem_cons, List.not_mem_nil, or_false, Prod.mk.injEq] at h
  obtain ⟨rfl, rfl⟩ | ⟨rfl, rfl⟩ | ⟨rfl, rfl⟩ := h <;> rfl

/-! ### BOOT and STAGE (R114, R131) -/

section Start

variable {p : Part} {boot : Bool} {tag : Option Tag} {port : Port} {unit : Nat} {raw : Bool}

theorem startEnds_endStart (o : AttemptOutcome) (d : Option Nat) (i : Option Word32) :
    startEnds tag port unit o d i p (endStart tag port unit o d i p) := rfl

theorem startLoad_deliver (boot : Bool) (tag : Option Tag) :
    (fun e p => startLoadEnd boot tag e p) = deliverLoadEnd (if boot then .boot else .stage) tag := by
  cases boot <;> rfl

theorem startCandidate_spent {image : Image} (hb : boot = true) (hs : image.key ∈ p.sre.spent) :
    startCandidate boot tag port unit raw image p =
      slotGivenBack (raise 305 tag image.key.fields (records tag ⟨0, 0, port, unit⟩ .spent none (some image.imageId) p)) :=
  if_pos ⟨hb, hs⟩

theorem startCandidate_loads {image : Image} (h : boot = false ∨ image.key ∉ p.sre.spent) :
    loadBegins image ⟨0, 0, port, unit⟩ (if boot then .manualBoot else .manualGo) (if boot then .boot else .stage) tag
      { p with sup := { p.sup with verbRun := some (.start boot tag port unit raw .loading) } }
      (startCandidate boot tag port unit raw image p) := by
  have hno : ¬ (boot = true ∧ image.key ∈ p.sre.spent) := by
    rintro ⟨rfl, hs⟩
    exact h.elim nofun (absurd hs)
  rw [startCandidate, if_neg hno]
  exact loadBegins_beginLoad _ _ _ _ _ _

end Start

/-! ### The search (R46, R47, R52) -/

/-- The console with a question's record handed to it, no other waiting (R181, R182). -/
def askingConsole (q : Record) (c : Console) : Console :=
  match c.tx with
  | none => { c with tx := some { record := some q } }
  | some _ => { c with question := some q }

section Search

variable {p : Part} {r : SearchRun} {e : BootEntry}

/-- A question with no other pending: its record is sent at once when the transmitter is free with no reply waiting, and otherwise
waits in its slot (R52, R181, R182). -/
theorem raiseQuestion_eq (hr : p.sre.run = some r) (hq : p.con.question = none) (hfree : p.con.tx = none → p.con.replies = [])
    (port : Port) (unit : Nat) (held : HeldBlock) :
    raiseQuestion port unit held p =
      { p with
        sre :=
          { p.sre with
            questionId := if p.sre.questionId = 0xFF then 1 else p.sre.questionId + 1
            question := some ⟨if p.sre.questionId = 0xFF then 1 else p.sre.questionId + 1, port, unit⟩
            questionTimer := if p.sst.settings.askwait = 0 then none else some p.sst.settings.askwait
            run := some { r with held := some held, stage := .question } }
        con := askingConsole
          (questionRecord ⟨if p.sre.questionId = 0xFF then 1 else p.sre.questionId + 1, port, unit⟩) p.con
        sup := { p.sup with mode := .auto .question } } := by
  have hcon : ∀ q : Record, arbitrateConsole { p.con with question := some q } = askingConsole q p.con := by
    intro q
    cases htx : p.con.tx with
    | none => simp [arbitrateConsole, askingConsole, htx, hfree htx, hq]
    | some i => simp [arbitrateConsole, askingConsole, htx]
  simp only [raiseQuestion, setSre, hr, handQuestion, hcon, setMode, Option.map_some]

/-- The classification of block 0 gives a search attempt what `classifiedForSearch` says. -/
theorem classifiedForSearch_searchClassified (block : List Byte) (capacity : Nat) (c : Classification) :
    classifiedForSearch block capacity c p (searchClassified block capacity c p) := by
  rintro r e fields hr h1 he rfl
  have hcur := currentEntry_run hr h1 he
  refine ⟨fun o d ho => ?_, fun hv => ⟨fun hpol => ?_, ?_⟩, ?_⟩
  · obtain ⟨hout, hb, hu⟩ := classOutcome_of_mem ho
    have hx : searchClassified block capacity c p = endAttempt (classOutcome c).1 (classOutcome c).2 c.imageId p := by
      unfold searchClassified
      split
      · exact absurd ‹_› hb
      · exact absurd ‹_› hu
      · rfl
    rw [hx, hout]
    exact attemptEnds_endAttempt o d c.imageId
  · have hx : searchClassified block capacity c p = endAttempt .unknownSkipped none c.imageId p := by
      simp only [searchClassified, hv, hcur, hr, hpol, reduceCtorEq, if_false]
    rw [hx]
    exact attemptEnds_endAttempt _ _ _
  · rintro id question hpol hq hfree rfl rfl
    simp only [searchClassified, hv, hcur, hr, hpol, if_true]
    exact raiseQuestion_eq hr hq hfree _ _ _
  · rintro image key hv hi rfl
    have hx : searchClassified block capacity c p = searchCandidate image p := by
      simp only [searchClassified, hv, hi]
    rw [hx]
    refine ⟨fun hs => ?_, fun hs => ⟨fun hb => ?_, fun hb => ?_⟩⟩
    · rw [searchCandidate, if_pos (by exact hs)]
      exact attemptEnds_endAttempt _ _ _
    · rw [searchCandidate, if_neg (by exact hs), if_pos hb, appendRunRecord_run hr hcur]
      rfl
    · rw [searchCandidate, if_neg (by exact hs), if_neg (Nat.not_le.mpr hb), hr]
      dsimp only
      have hq : setMode (.auto .load) (setRun (fun r => { r with stage := .loading }) p) =
          runStands { r with stage := .loading } .load p := by
        simp only [setMode, setRun, setSre, hr]
        rfl
      rw [hq, runFields_run hr hcur]
      exact loadBegins_beginLoad _ _ _ _ _ _

end Search

/-! ### Delivery (R6) -/

section Delivery

variable {p : Part} {rq : Requester} {port : Port} {unit : Nat}

/-- A PROBE result gives its requester what `probeDelivered` says. -/
theorem probeDelivered_deliver (r : ProbeResult) : probeDelivered rq port unit r p (deliver (rq, .probe r) p) := by
  refine ⟨?_, ?_, ?_, ?_⟩
  · rintro tag rfl hv hr
    simp only [deliver, verbResult, hv]
    rw [endProbe, replyRecord_alone hr]
    cases r <;> rfl
  · rintro tag rfl hv
    have hx : deliver (.volumeVerb, .probe r) p = volumeProbe tag port unit r p := by
      simp only [deliver, verbResult, hv]
    rw [hx]
    refine ⟨fun word hw hr => ?_, ?_⟩
    · simp only [List.mem_cons, List.not_mem_nil, or_false, Prod.mk.injEq] at hw
      obtain ⟨rfl, rfl⟩ | ⟨rfl, rfl⟩ | ⟨rfl, rfl⟩ := hw <;>
        rw [volumeProbe, plainVolume, endVolume, replyRecord_alone hr, volumeLine_plain] <;> rfl
    · rintro c e rfl he hread
      rw [volumeProbe, requestRead_readable (by exact he) hread]
      rfl
  · rintro boot tag raw rfl hv
    have hx : deliver (.manualStart, .probe r) p = startProbe boot tag port unit raw r p := by
      simp only [deliver, verbResult, hv]
    rw [hx]
    refine ⟨fun o ho => ?_, ?_⟩
    · rw [startProbe, probeOutcome_of_mem ho]
      exact startEnds_endStart _ _ _
    · rintro c e rfl he hread
      rw [startProbe, probeOutcome]
      dsimp only
      rw [requestRead_readable (by exact he) hread]
      rfl
  · rintro run b rfl hr hst h1 hb rfl rfl
    have hcur := currentEntry_run hr h1 hb
    have hx : deliver (.search, .probe r) p = searchProbe r p := by
      simp only [deliver, searchResult, hr, Option.map_some, hst]
    rw [hx]
    refine ⟨fun o ho => ?_, ?_⟩
    · rw [searchProbe, probeOutcome_of_mem ho]
      exact attemptEnds_endAttempt _ _ _
    · rintro c e rfl he hread
      have hq : setRun (fun r => { r with stage := .block0 c }) p =
          { p with sre := { p.sre with run := some { run with stage := .block0 c } } } := by
        simp only [setRun, setSre, hr]
        rfl
      simp only [searchProbe, probeOutcome, hcur, hr, hq]
      rw [requestRead_readable (by exact he) hread]
      rfl

/-- A READ result gives its requester what `readDelivered` says. -/
theorem readDelivered_deliver (r : ReadResult) : readDelivered rq port unit r p (deliver (rq, .read r) p) := by
  refine ⟨?_, ?_, ?_, ?_⟩
  · rintro tag capacity rfl hv hr
    have hx : deliver (.volumeVerb, .read r) p = volumeRead tag port unit capacity r p := by
      simp only [deliver, verbResult, hv]
    rw [hx]
    refine ⟨?_, fun b fields hf => ?_⟩
    · rintro block rfl
      rw [volumeRead, endVolume, replyRecord_alone hr, volumeLines_eq]
      rfl
    · simp only [List.mem_cons, List.not_mem_nil, or_false, Prod.mk.injEq] at hf
      obtain ⟨rfl, rfl⟩ | ⟨rfl, rfl⟩ | ⟨rfl, rfl⟩ | ⟨rfl, rfl⟩ := hf
      · rw [volumeRead, plainVolume, endVolume, replyRecord_alone hr, volumeLine_plain]
        rfl
      · rw [volumeRead, plainVolume, endVolume, replyRecord_alone hr, volumeLine_plain]
        rfl
      · rw [volumeRead, plainVolume, endVolume, replyRecord_alone hr, volumeLine_plain]
        rfl
      · rw [volumeRead, endVolume, replyRecord_alone hr]
        rfl
  · rintro boot tag raw capacity rfl hv
    have hx : deliver (.manualStart, .read r) p = startBlock0 boot tag port unit raw capacity r p := by
      simp only [deliver, verbResult, hv]
    rw [hx]
    refine ⟨?_, ?_⟩
    · rintro b x hmem rfl
      rw [startBlock0, block0Outcome_of_mem hmem]
      exact startEnds_endStart _ _ _
    · rintro block c rfl rfl
      rw [startBlock0, block0Outcome]
      dsimp only
      generalize classifyNow block capacity port unit raw p = c
      refine ⟨fun o d ho => ?_, ?_⟩
      · obtain ⟨hout, hb⟩ : classOutcome c = (o, d) ∧ c.volume ≠ .bootable := by
          obtain ho | ho := List.mem_cons.mp ho
          · simp only [Prod.mk.injEq] at ho
            obtain ⟨hv, rfl, rfl⟩ := ho
            simp [classOutcome, hv]
          · obtain ⟨hout, hb, -⟩ := classOutcome_of_mem ho
            exact ⟨hout, hb⟩
        split
        · exact absurd ‹_› hb
        · rw [hout]
          exact startEnds_endStart _ _ _
      · rintro image key hv hi rfl
        simp only [hv, hi]
        exact ⟨fun hb hs => startCandidate_spent hb hs, fun hno => startCandidate_loads hno⟩
  · rintro run capacity e rfl hr hst h1 he rfl rfl
    have hcur := currentEntry_run hr h1 he
    have hx : deliver (.search, .read r) p = searchBlock0 capacity r p := by
      simp only [deliver, searchResult, hr, Option.map_some, hst]
    rw [hx]
    refine ⟨?_, ?_⟩
    · rintro b x hmem rfl
      rw [searchBlock0, block0Outcome_of_mem hmem]
      exact attemptEnds_endAttempt _ _ _
    · rintro block rfl
      simp only [searchBlock0, block0Outcome, hcur, hr]
      exact classifiedForSearch_searchClassified _ _ _
  · rintro plan cur g rfl hp hc hs hg
    have hx : deliver (.loader, .read r) p = followLoad plan (loaderRead r plan cur g p) := by
      simp only [deliver, loaderResult, hp, hc, hg]
    rw [hx]
    refine ⟨?_, fun b o d hmem => ?_⟩
    · rintro block used rfl rfl hj
      rw [loaderRead, loadTxn_taken (by exact hj)]
      rfl
    · simp only [List.mem_cons, List.not_mem_nil, or_false, Prod.mk.injEq] at hmem
      obtain ⟨rfl, rfl, rfl⟩ | ⟨rfl, rfl, rfl⟩ | ⟨rfl, rfl, rfl⟩ | ⟨rfl, rfl, rfl⟩ := hmem <;>
        exact loadFails_failLoad _ _

end Delivery

end Sys2Proof.Proofs

/-! PROOFS. Source ports: how PROBE, VOLUME, STAGE and BOOT begin, and how an exchange ends (R6 to R17, R21, R35, R113, R131). -/

namespace Sys2Proof.Proofs

open Sys2Proof Sys2Proof.Machine

/-! ### Entries and units -/

theorem num_of_ofNat? {x : Nat} {port : Port} (h : Port.ofNat? x = some port) : port.num = x := by
  unfold Port.ofNat? at h
  split at h <;> cases h <;> rfl

theorem portUnit?_eq_none {x u : Nat} (h : 3 < x ∨ 7 < u) : portUnit? x u = none := by
  unfold portUnit?
  obtain h | h := h
  · rw [portOfNat?_eq_none h]
  · split
    · rfl
    · rw [if_neg (Nat.not_le.mpr h)]

theorem portUnit?_eq_some {x u : Nat} {port : Port} (hx : Port.ofNat? x = some port) (hu : u ≤ 7) :
    portUnit? x u = some (port, u) := by
  simp only [portUnit?, hx, if_pos hu]

theorem exists_portUnit? {x u : Nat} (hx : x ≤ 3) (hu : u ≤ 7) : ∃ port, portUnit? x u = some (port, u) := by
  obtain rfl | rfl | rfl | rfl : x = 0 ∨ x = 1 ∨ x = 2 ∨ x = 3 := by omega
  · exact ⟨_, portUnit?_eq_some rfl hu⟩
  · exact ⟨_, portUnit?_eq_some rfl hu⟩
  · exact ⟨_, portUnit?_eq_some rfl hu⟩
  · exact ⟨_, portUnit?_eq_some rfl hu⟩

theorem setEntry_setEntry (port : Port) (e e' : PortEntry) (p : Part) : setEntry port e (setEntry port e' p) = setEntry port e p := by
  unfold setEntry
  cases p.spc.ports with
  | none => rfl
  | some t => cases port <;> rfl

/-- Putting a port's own entry back changes nothing. -/
theorem setEntry_self {p : Part} {port : Port} {e : PortEntry} (h : entryOf p port = some e) : setEntry port e p = p := by
  obtain ⟨t, ht, rfl⟩ := Option.map_eq_some_iff.mp h
  obtain ⟨spc, sre, mmp, mck, ldr, rlu, sup, sst, con, tgt⟩ := p
  obtain ⟨ports, sense⟩ := spc
  cases ht
  cases port <;> rfl

/-! ### PROBE and VOLUME begin (R7, R21, R35) -/

section Begin

variable {p : Part} {port : Port} {e : PortEntry} {u : Nat} (tag : Option Tag)

/-- The entry at the start of a PROBE verb: FAULT cleared, count 0 (R21). -/
def clearedEntry (e : PortEntry) : PortEntry :=
  if e.state = .fault then { e with state := .idle, count := 0 } else { e with count := 0 }

/-- The part at the start of a PROBE verb: notice 204 when a FAULT is cleared (R21). -/
def clearedPart (port : Port) (e : PortEntry) (p : Part) : Part :=
  if e.state = .fault then raise 204 none [.num port.num] p else p

theorem clearedEntry_kind (e : PortEntry) : (clearedEntry e).kind = e.kind := by
  unfold clearedEntry
  split <;> rfl

theorem clearedEntry_cardPresent (e : PortEntry) : (clearedEntry e).cardPresent = e.cardPresent := by
  unfold clearedEntry
  split <;> rfl

theorem clearedEntry_units (e : PortEntry) : (clearedEntry e).units = e.units := by
  unfold clearedEntry
  split <;> rfl

theorem clearedEntry_state (e : PortEntry) : (clearedEntry e).state ≠ .fault := by
  unfold clearedEntry
  split
  · nofun
  · assumption

theorem entryOf_clearedPart (he : entryOf p port = some e) : entryOf (clearedPart port e p) port = some e := by
  unfold clearedPart
  split
  · exact he
  · exact he

theorem clearedPart_replies (hr : p.con.replies = []) : (clearedPart port e p).con.replies = [] := by
  unfold clearedPart
  split
  · exact raise_replies hr _ _ _
  · exact hr

theorem clearedPart_takeSlot (v : SlotVerb) (run : Option VerbRun) :
    clearedPart port e (takeSlot v tag run p) = takeSlot v tag run (clearedPart port e p) := by
  unfold clearedPart
  split <;> rfl

theorem beginProbe_eq (he : entryOf p port = some e) :
    beginProbe tag port u p =
      follow (requestProbe port u .probeVerb (setEntry port (clearedEntry e) (clearedPart port e p)))
        (fun r p => endProbe tag port u r p) := by
  unfold beginProbe clearedEntry clearedPart
  by_cases hf : e.state = .fault
  · have hc : clearFault port p = raise 204 none [.num port.num] (setEntry port { e with state := .idle, count := 0 } p) := by
      simp only [clearFault, he, if_pos hf]
    have he' : entryOf (raise 204 none [.num port.num] (setEntry port { e with state := .idle, count := 0 } p)) port =
        some { e with state := .idle, count := 0 } := entryOf_setEntry_self he
    simp only [hc, he', if_pos hf]
    rw [show setEntry port { e with state := .idle, count := 0 }
        (raise 204 none [.num port.num] (setEntry port { e with state := .idle, count := 0 } p)) =
      raise 204 none [.num port.num] (setEntry port { e with state := .idle, count := 0 }
        (setEntry port { e with state := .idle, count := 0 } p)) from rfl, setEntry_setEntry]
    rfl
  · have hc : clearFault port p = p := by
      simp only [clearFault, he, if_neg hf]
    simp only [hc, he, if_neg hf]

/-- A unit that no exchange reaches (R7). -/
theorem requestProbe_unserved (he : entryOf p port = some e) (hu : e.kind.units ≤ u) (rq : Requester) :
    requestProbe port u rq p = (p, some .absent) := by
  simp only [requestProbe, he, if_pos hu]

theorem requestProbe_fault (he : entryOf p port = some e) (hu : u < e.kind.units) (hf : e.state = .fault) (rq : Requester) :
    requestProbe port u rq p = (p, some .notReady) := by
  simp only [requestProbe, he, if_neg (Nat.not_le.mpr hu), if_pos hf]

theorem requestProbe_noCard (he : entryOf p port = some e) (hu : u < e.kind.units) (hf : e.state ≠ .fault) (hk : e.kind = .card)
    (hc : e.cardPresent = false) (rq : Requester) :
    requestProbe port u rq p =
      (setEntry port { e with units := e.units.set u ⟨.absent, .notReady, none⟩ } p, some .absent) := by
  simp only [requestProbe, he, if_neg (Nat.not_le.mpr hu), if_neg hf, if_pos (And.intro hk hc)]
  rfl

theorem endProbe_absent (hr : p.con.replies = []) :
    endProbe tag port u .absent p = slotGivenBack (answers (accepted 0 tag [.num port.num, .num u, .word "ABSENT"]) p) := by
  rw [endProbe, replyRecord_alone hr]
  rfl

theorem beginProbe_reachable (he : entryOf p port = some e) (hu : u < e.kind.units) (hc : e.kind = .card → e.cardPresent = true) :
    beginProbe tag port u p = setEntry port (probing (clearedEntry e) u .probeVerb) (clearedPart port e p) := by
  rw [beginProbe_eq tag he, requestProbe_reachable (entryOf_setEntry_self (entryOf_clearedPart he))
    ⟨by rwa [clearedEntry_kind], clearedEntry_state e, by rwa [clearedEntry_kind, clearedEntry_cardPresent]⟩, follow,
    setEntry_setEntry]

theorem beginProbe_unserved (he : entryOf p port = some e) (hu : e.kind.units ≤ u) (hr : p.con.replies = []) :
    beginProbe tag port u p =
      slotGivenBack (answers (accepted 0 tag [.num port.num, .num u, .word "ABSENT"])
        (setEntry port (clearedEntry e) (clearedPart port e p))) := by
  rw [beginProbe_eq tag he, requestProbe_unserved (entryOf_setEntry_self (entryOf_clearedPart he)) (by rwa [clearedEntry_kind]), follow]
  exact endProbe_absent tag (clearedPart_replies hr)

theorem beginProbe_noCard (he : entryOf p port = some e) (hu : u < e.kind.units) (hk : e.kind = .card)
    (hc : e.cardPresent = false) (hr : p.con.replies = []) :
    beginProbe tag port u p =
      slotGivenBack (answers (accepted 0 tag [.num port.num, .num u, .word "ABSENT"])
        (setEntry port { clearedEntry e with units := e.units.set u ⟨.absent, .notReady, none⟩ } (clearedPart port e p))) := by
  rw [beginProbe_eq tag he, requestProbe_noCard (entryOf_setEntry_self (entryOf_clearedPart he)) (by rwa [clearedEntry_kind])
    (clearedEntry_state e) (by rwa [clearedEntry_kind]) (by rwa [clearedEntry_cardPresent]), follow, setEntry_setEntry,
    clearedEntry_units]
  exact endProbe_absent tag (clearedPart_replies hr)

theorem plainVolume_alone (hr : p.con.replies = []) (outcome : String) :
    plainVolume tag port u outcome none p =
      slotGivenBack (answers (multiLine tag [[.num port.num, .num u, .word outcome]]) p) := by
  rw [plainVolume, endVolume, replyRecord_alone hr, volumeLine_plain]
  rfl

theorem probeVerb_form {args : List Arg} (h : ∀ x u, args ≠ [.num x, .num u]) (p : Part) :
    probeVerb tag args p = refuse 111 tag p ∧ volumeVerb tag args p = refuse 111 tag p := by
  constructor
  · unfold probeVerb
    split
    · exact absurd rfl (h _ _)
    · rfl
  · unfold volumeVerb
    split
    · exact absurd rfl (h _ _)
    · rfl

end Begin

/-- Settles O28: the two verbs' judgement, then what decides their PROBE. -/
theorem probeAndVolumeBeginAnExchange : Obligations.ProbeAndVolumeBeginAnExchange := by
  refine ⟨⟨rfl, rfl, rfl, rfl, rfl, rfl, rfl, rfl, rfl⟩, fun tag args as s ha ht ⟨b, hm⟩ => ?_⟩
  have hprobe : Yields (.probe tag args) s (probeVerb tag as s.toPart) := yields_owner (v := .probe) rfl ha ht (hm ▸ rfl)
  have hvolume : Yields (.volume tag args) s (volumeVerb tag as s.toPart) := yields_owner (v := .volume) rfl ha ht (hm ▸ rfl)
  refine ⟨fun hf => ?_, ?_⟩
  · rw [(probeVerb_form tag hf s.toPart).1, refuse_quiet ht.1] at hprobe
    rw [(probeVerb_form tag hf s.toPart).2, refuse_quiet ht.1] at hvolume
    exact ⟨hprobe, hvolume⟩
  · rintro x u rfl
    rw [probeVerb] at hprobe
    rw [volumeVerb] at hvolume
    refine ⟨fun hr => ?_, fun hx hu hs => ?_, ?_⟩
    · rw [portUnit?_eq_none hr, refuse_quiet ht.1] at hprobe hvolume
      exact ⟨hprobe, hvolume⟩
    · obtain ⟨port, hpu⟩ := exists_portUnit? hx hu
      simp only [hpu, slotHeld_of_ne hs, if_true, refuse_quiet ht.1] at hprobe hvolume
      exact ⟨hprobe, hvolume⟩
    · intro port e cleared q hx hu hs he hcleared hq
      obtain rfl := num_of_ofNat? hx
      obtain rfl : cleared = clearedEntry e := hcleared
      obtain rfl : q = clearedPart port e s.toPart := hq
      simp only [portUnit?_eq_some hx hu, not_slotHeld hs, Bool.false_eq_true, if_false] at hprobe hvolume
      refine ⟨fun hu hc => ⟨?_, fun hf => ?_⟩, fun hu hf => ?_, fun hu => ⟨?_, ?_⟩, fun hu hk hc => ⟨?_, fun hf => ?_⟩⟩
      · rw [beginProbe_reachable tag (by exact he) hu hc, clearedPart_takeSlot] at hprobe
        exact hprobe
      · rw [beginVolume, requestProbe_reachable (by exact he) ⟨hu, hf, hc⟩] at hvolume
        exact hvolume
      · rw [beginVolume, requestProbe_fault (by exact he) hu hf] at hvolume
        simp only [follow, volumeProbe] at hvolume
        rw [plainVolume_alone _ (by exact ht.1.2)] at hvolume
        exact hvolume
      · rw [beginProbe_unserved tag (by exact he) hu (by exact ht.1.2), clearedPart_takeSlot] at hprobe
        exact hprobe
      · rw [beginVolume, requestProbe_unserved (by exact he) hu] at hvolume
        simp only [follow, volumeProbe] at hvolume
        rw [plainVolume_alone _ (by exact ht.1.2)] at hvolume
        exact hvolume
      · rw [beginProbe_noCard tag (by exact he) hu hk hc (by exact ht.1.2), clearedPart_takeSlot] at hprobe
        exact hprobe
      · rw [beginVolume, requestProbe_noCard (by exact he) hu hf hk hc] at hvolume
        simp only [follow, volumeProbe] at hvolume
        rw [plainVolume_alone _ (by exact ht.1.2)] at hvolume
        exact hvolume

/-! ### STAGE and BOOT begin (R113, R114, R131) -/

section Start

variable {p : Part} {port : Port} {e : PortEntry} {u : Nat} {boot raw : Bool} {tag : Option Tag}

theorem startVerb_form {args : List Arg} (h : ∀ x u, args ≠ [.num x, .num u] ∧ args ≠ [.num x, .num u, .word "RAW".toList])
    (p : Part) : startVerb boot tag args p = refuse 111 tag p := by
  unfold startVerb
  extract_lets judged
  split
  · exact absurd rfl (h _ _).1
  · rename_i x u w
    exact if_neg fun hw : w = "RAW".toList => (h x u).2 (by rw [hw])
  · rfl

/-- The judgement of STAGE and BOOT once their form is right (R113). -/
theorem startVerb_judged {args : List Arg} {x u : Nat}
    (h : (args = [.num x, .num u] ∧ raw = false) ∨ (args = [.num x, .num u, .word "RAW".toList] ∧ raw = true)) (p : Part) :
    (portUnit? x u = none → startVerb boot tag args p = refuse 112 tag p) ∧
      ∀ port, portUnit? x u = some (port, u) →
        startVerb boot tag args p = if slotHeld p then refuse 121 tag p else startTaken boot tag port u raw p := by
  obtain ⟨rfl, rfl⟩ | ⟨rfl, rfl⟩ := h
  · constructor
    · intro h
      simp only [startVerb, h]
    · intro port h
      simp only [startVerb, h]
  · constructor
    · intro h
      simp only [startVerb, h, if_true]
    · intro port h
      simp only [startVerb, h, if_true]

theorem beginStart_unserved (he : entryOf p port = some e) (hu : e.kind.units ≤ u) :
    beginStart boot tag port u raw p = endStart tag port u .notPresent none none p := by
  simp only [beginStart, he, if_pos hu]

theorem beginStart_served (he : entryOf p port = some e) (hu : u < e.kind.units) :
    beginStart boot tag port u raw p =
      follow (requestProbe port u .manualStart p) fun r p => startProbe boot tag port u raw r p := by
  simp only [beginStart, he, if_neg (Nat.not_le.mpr hu)]

end Start

/-- Settles O41: the judgement, then what decides the attempt's PROBE. -/
theorem stageAndBootBeginWithAProbe : Obligations.StageAndBootBeginWithAProbe := by
  intro boot verb name tag args as s hverb ha ht ⟨b, hm⟩
  have h : Yields (verb tag args) s (startVerb boot tag as s.toPart) := by
    obtain ⟨rfl, rfl, rfl⟩ | ⟨rfl, rfl, rfl⟩ := hverb
    · exact yields_owner (v := .boot) rfl ha ht (hm ▸ rfl)
    · exact yields_owner (v := .stage) rfl ha ht (hm ▸ rfl)
  have hname : name = if boot then .boot else .stage := by
    obtain ⟨rfl, -, rfl⟩ | ⟨rfl, -, rfl⟩ := hverb <;> rfl
  refine ⟨fun hf => ?_, fun x u raw hform => ?_⟩
  · rwa [startVerb_form hf, refuse_quiet ht.1] at h
  · obtain ⟨hrange, hjudge⟩ := startVerb_judged (boot := boot) (tag := tag) hform s.toPart
    refine ⟨fun hr => ?_, fun hx hu hs => ?_, fun port e hx hu hs he => ?_⟩
    · rwa [hrange (portUnit?_eq_none hr), refuse_quiet ht.1] at h
    · obtain ⟨port, hpu⟩ := exists_portUnit? hx hu
      rwa [hjudge port hpu, if_pos (slotHeld_of_ne hs), refuse_quiet ht.1] at h
    · obtain rfl := num_of_ofNat? hx
      subst hname
      rw [hjudge port (portUnit?_eq_some hx hu), if_neg (by simp [not_slotHeld hs]), startTaken, replyOk_quiet (by exact ht.1)] at h
      refine ⟨fun hu hf hc => ?_, fun hu => ?_, fun hu hf => ?_, fun hu hf hk hc => ?_⟩
      · rw [beginStart_served (by exact he) hu, requestProbe_reachable (by exact he) ⟨hu, hf, hc⟩] at h
        exact h
      · rw [beginStart_unserved (by exact he) hu] at h
        exact h
      · rw [beginStart_served (by exact he) hu, requestProbe_fault (by exact he) hu hf] at h
        exact h
      · rw [beginStart_served (by exact he) hu, requestProbe_noCard (by exact he) hu hf hk hc] at h
        exact h

end Sys2Proof.Proofs

/-! PROOFS. The end of an exchange on a port: device answers, timeouts, retries, FAULT and card events, with the delivery of the result
(R3, R6, R9 to R17). -/

namespace Sys2Proof.Proofs

open Sys2Proof Sys2Proof.Machine

/-! ### The end of an exchange (R3, R6, R9, R11, R12) -/

/-- The part once an operation has ended: its port IDLE, or in FAULT with notice 203 at a count of 3 (R6, R12). -/
def endedPort (port : Port) (e : PortEntry) (unit count : Nat) (v : UnitRecord) (p : Part) : Part :=
  if 3 ≤ count then
    raise 203 none [.num port.num] (setEntry port { portFreed e count unit v with state := .fault } p)
  else setEntry port (portFreed e count unit v) p

theorem endedPort_idle {count : Nat} (h : count < 3) (port : Port) (e : PortEntry) (unit : Nat) (v : UnitRecord) (p : Part) :
    endedPort port e unit count v p = setEntry port (portFreed e count unit v) p := if_neg (by omega)

theorem endedPort_fault {count : Nat} (h : 3 ≤ count) (port : Port) (e : PortEntry) (unit : Nat) (v : UnitRecord) (p : Part) :
    endedPort port e unit count v p =
      raise 203 none [.num port.num] (setEntry port { portFreed e count unit v with state := .fault } p) := if_pos h

theorem endOperation_eq (e : PortEntry) (count unit : Nat) (v : UnitRecord) :
    endOperation { setUnit unit v e with count := count } =
      if 3 ≤ count then { portFreed e count unit v with state := .fault } else portFreed e count unit v := by
  unfold endOperation
  by_cases h : 3 ≤ count
  · have hc : Config.faultCount ≤ count := h
    simp only [if_pos h, if_pos hc]
    rfl
  · have hc : ¬ Config.faultCount ≤ count := h
    simp only [if_neg h, if_neg hc]
    rfl

section Ended

variable {p : Part} {port : Port} {e : PortEntry} {f : InFlight}

theorem exchangeEnded_probe (hop : f.op = .probe) (r : ExchangeResult) :
    exchangeEnded port e f r p =
      deliver (f.requester, .probe (probeResult r))
        (endedPort port e f.unit (countAfter r e.count) (unitAfterProbe r (e.units.getD f.unit freshUnit)) p) := by
  simp only [exchangeEnded, finishExchange, hop, follow, endOperation_eq, endedPort]
  by_cases h : 3 ≤ countAfter r e.count
  · have hc : Config.faultCount ≤ countAfter r e.count := h
    simp only [if_pos h, if_pos hc]
  · have hc : ¬ Config.faultCount ≤ countAfter r e.count := h
    simp only [if_neg h, if_neg hc]

theorem exchangeEnded_readEnds {block retries made : Nat} (hop : f.op = .read block retries made) {r : ExchangeResult}
    {res : ReadResult} (hr : readEnd r block retries (made + 1) (countAfter r e.count) = some res) :
    exchangeEnded port e f r p =
      deliver (f.requester, .read res)
        (endedPort port e f.unit (countAfter r e.count) (unitAfterRead r (e.units.getD f.unit freshUnit)) p) := by
  simp only [exchangeEnded, finishExchange, hop, follow, hr, endOperation_eq, endedPort]
  by_cases h : 3 ≤ countAfter r e.count
  · have hc : Config.faultCount ≤ countAfter r e.count := h
    simp only [if_pos h, if_pos hc]
  · have hc : ¬ Config.faultCount ≤ countAfter r e.count := h
    simp only [if_neg h, if_neg hc]

theorem exchangeEnded_again {block retries made : Nat} (hop : f.op = .read block retries made) {r : ExchangeResult}
    (hr : readEnd r block retries (made + 1) (countAfter r e.count) = none) :
    exchangeEnded port e f r p =
      setEntry port
        (reading { e with
            units := e.units.set f.unit (unitAfterRead r (e.units.getD f.unit freshUnit))
            count := countAfter r e.count } f.unit block retries (made + 1) f.requester) p := by
  simp only [exchangeEnded, finishExchange, hop, follow, hr]
  rfl

end Ended

theorem getD_unit {e : PortEntry} {u : Nat} {r : UnitRecord} (h : e.units[u]? = some r) : e.units.getD u freshUnit = r := by
  rw [List.getD_eq_getElem?_getD, h]
  rfl

theorem set_getD_unit {e : PortEntry} {u : Nat} (h : u < e.units.length) : e.units.set u (e.units.getD u freshUnit) = e.units := by
  rw [getD_unit (List.getElem?_eq_getElem h), List.set_getElem_self]

theorem set_unit {e : PortEntry} {u : Nat} {r : UnitRecord} (h : e.units[u]? = some r) : e.units.set u r = e.units := by
  obtain ⟨hlt, hr⟩ := List.getElem?_eq_some_iff.mp h
  rw [← hr, List.set_getElem_self]

theorem unitAfterProbe_eq (r : ExchangeResult) (u : UnitRecord) : unitAfterProbe r u = probedUnit (probeResult r) u := by
  cases r <;> rfl

/-! ### Answers of devices (R14, R16, R17) -/

theorem pow_div_block {n : Nat} (h : 0x10 ≤ n) : 2 ^ n / 512 = 2 ^ (n - 9) := by
  rw [show (512 : Nat) = 2 ^ 9 from rfl, Nat.pow_div (by omega) (by omega)]

section Answers

variable {s : State} {port : Port} {e : PortEntry} {f : InFlight}

theorem answerExchange_result (he : entryOf s.toPart port = some e) (hf : e.op = some f) {result : PortOp → Option ExchangeResult}
    {x : ExchangeResult} (hx : result f.op = some x) :
    answerExchange e.kind result port s.toPart = exchangeEnded port e f x s.toPart := by
  simp only [answerExchange, he, hf, ne_eq, not_true_eq_false, if_false, hx]

theorem yields_flash (he : entryOf s.toPart port = some e) (hf : e.op = some f) (hk : e.kind = .flash) {a : FlashAnswer}
    {x : ExchangeResult} (hx : flashResult f.op a = some x) :
    Yields (.flashExchangeEnd port a) s (exchangeEnded port e f x s.toPart) := by
  have h : Yields (.flashExchangeEnd port a) s (answerExchange .flash (fun op => flashResult op a) port s.toPart) := rfl
  rwa [← hk, answerExchange_result he hf hx] at h

theorem yields_card (he : entryOf s.toPart port = some e) (hf : e.op = some f) (hk : e.kind = .card) {a : CardAnswer}
    {x : ExchangeResult} (hx : cardResult f.op a = some x) :
    Yields (.cardExchangeEnd port a) s (exchangeEnded port e f x s.toPart) := by
  have h : Yields (.cardExchangeEnd port a) s (answerExchange .card (fun op => cardResult op a) port s.toPart) := rfl
  rwa [← hk, answerExchange_result he hf hx] at h

theorem yields_block (he : entryOf s.toPart port = some e) (hf : e.op = some f) (hk : e.kind = .block) {a : BlockAnswer}
    {x : ExchangeResult} (hx : blockResult f.op a = some x) :
    Yields (.blockExchangeEnd port a) s (exchangeEnded port e f x s.toPart) := by
  have h : Yields (.blockExchangeEnd port a) s (answerExchange .block (fun op => blockResult op a) port s.toPart) := rfl
  rwa [← hk, answerExchange_result he hf hx] at h

/-- A result of a probe that is not TIMEOUT, as an exchange gives it. -/
def exchangeOf : ProbeResult → ExchangeResult
  | .absent => .absent
  | .ready c => .ready c
  | .notReady => .notReady
  | .timeout => .timeout

theorem probeResult_exchangeOf (r : ProbeResult) : probeResult (exchangeOf r) = r := by cases r <;> rfl

/-- A device's answer to a PROBE ends the exchange with its result (R7, R14, R16, R17). -/
theorem yields_probeAnswer (he : entryOf s.toPart port = some e) (hf : e.op = some f) (hop : f.op = .probe) {c : Instr}
    {r : ProbeResult} (h : probeAnswer e.kind port c r) :
    Yields c s (exchangeEnded port e f (exchangeOf r) s.toPart) ∧ r ≠ .timeout := by
  obtain ⟨hk, b0, b1, b2, rfl, h⟩ | ⟨hk, h⟩ | ⟨hk, h⟩ := h
  · have hflash : ∀ x, flashResult .probe (.identify b0 b1 b2) = some x →
        Yields (.flashExchangeEnd port (.identify b0 b1 b2)) s (exchangeEnded port e f x s.toPart) := fun x hx =>
      yields_flash he hf hk (by rwa [hop])
    obtain ⟨hsame, rfl⟩ | ⟨h10, h1f, rfl⟩ | ⟨h00, hff, hrange, rfl⟩ := h
    · exact ⟨hflash _ (if_pos hsame), nofun⟩
    · have hno : ¬ ((b0 = 0 ∧ b1 = 0 ∧ b2 = 0) ∨ (b0 = 0xFF ∧ b1 = 0xFF ∧ b2 = 0xFF)) := by
        rintro (⟨-, -, rfl⟩ | ⟨-, -, rfl⟩)
        · exact absurd h10 (by decide)
        · exact absurd h1f (by decide)
      refine ⟨hflash _ ?_, nofun⟩
      rw [flashResult, if_neg hno, if_neg (by omega), exchangeOf, pow_div_block h10]
    · exact ⟨hflash _ ((if_neg (by rintro (h | h) <;> contradiction)).trans (if_pos hrange)), nofun⟩
  · have hcard : ∀ a x, cardResult .probe a = some x →
        Yields (.cardExchangeEnd port a) s (exchangeEnded port e f x s.toPart) := fun a x hx =>
      yields_card he hf hk (by rwa [hop])
    obtain ⟨cap, rfl, hcap, rfl⟩ | ⟨hc, rfl⟩ := h
    · exact ⟨hcard _ _ (congrArg some (if_neg hcap)), nofun⟩
    · simp only [List.mem_cons, List.not_mem_nil, or_false] at hc
      obtain rfl | rfl | rfl := hc
      · exact ⟨hcard _ _ rfl, nofun⟩
      · exact ⟨hcard _ _ rfl, nofun⟩
      · exact ⟨hcard _ _ rfl, nofun⟩
  · have hblock : ∀ a x, blockResult .probe a = some x →
        Yields (.blockExchangeEnd port a) s (exchangeEnded port e f x s.toPart) := fun a x hx =>
      yields_block he hf hk (by rwa [hop])
    obtain ⟨cap, rfl, hcap, rfl⟩ | ⟨rfl, rfl⟩ | ⟨hc, rfl⟩ := h
    · exact ⟨hblock _ _ (congrArg some (if_neg hcap)), nofun⟩
    · exact ⟨hblock _ _ rfl, nofun⟩
    · simp only [List.mem_cons, List.not_mem_nil, or_false] at hc
      obtain rfl | rfl | rfl | rfl := hc
      · exact ⟨hblock _ _ rfl, nofun⟩
      · exact ⟨hblock _ _ rfl, nofun⟩
      · exact ⟨hblock _ _ rfl, nofun⟩
      · exact ⟨hblock _ _ rfl, nofun⟩

/-- The part once an answered PROBE has ended, before its delivery. -/
theorem exchangeEnded_answer {p : Part} (hop : f.op = .probe) {r : ProbeResult} (hr : r ≠ .timeout) :
    exchangeEnded port e f (exchangeOf r) p =
      deliver (f.requester, .probe r)
        (setEntry port (portFreed e 0 f.unit (probedUnit r (e.units.getD f.unit freshUnit))) p) := by
  have hcount : countAfter (exchangeOf r) e.count = 0 := by
    cases r with
    | timeout => exact absurd rfl hr
    | _ => rfl
  rw [exchangeEnded_probe hop, hcount, unitAfterProbe_eq, probeResult_exchangeOf, endedPort_idle (by omega)]

/-- A device's answer that ends a READ at once (R9, R14, R16, R17). -/
theorem yields_readAnswer (he : entryOf s.toPart port = some e) (hf : e.op = some f) {block retries made : Nat}
    (hop : f.op = .read block retries made) {c : Instr} {u v : UnitRecord} {r : ReadResult} (hu : e.units[f.unit]? = some u)
    (h : readAnswer e.kind port block c u r v) :
    Yields c s (deliver (f.requester, .read r) (setEntry port (portFreed e 0 f.unit v) s.toPart)) := by
  have hends : ∀ x, readEnd x block retries (made + 1) 0 = some r → countAfter x e.count = 0 → unitAfterRead x u = v →
      exchangeEnded port e f x s.toPart = deliver (f.requester, .read r) (setEntry port (portFreed e 0 f.unit v) s.toPart) := by
    intro x hx hcount hv
    rw [exchangeEnded_readEnds hop (by rw [hcount, hx]), hcount, getD_unit hu, hv, endedPort_idle (by omega)]
  obtain ⟨data, hlen, rfl, rfl, h⟩ | ⟨rfl, rfl, h⟩ | ⟨rfl, rfl, hk, rfl⟩ := h
  · rw [← hends (.data data) rfl rfl rfl]
    obtain ⟨hk, rfl⟩ | ⟨hk, rfl⟩ | ⟨hk, rfl⟩ := h
    · exact yields_flash he hf hk (by rw [hop]; exact if_neg (not_not_intro hlen))
    · exact yields_card he hf hk (by rw [hop]; exact if_neg (not_not_intro hlen))
    · exact yields_block he hf hk (by rw [hop]; exact if_neg (not_not_intro hlen))
  · rw [← hends .notReady rfl rfl rfl]
    obtain ⟨hk, rfl⟩ | ⟨hk, rfl⟩ := h
    · exact yields_card he hf hk (by rw [hop]; rfl)
    · exact yields_block he hf hk (by rw [hop]; rfl)
  · rw [← hends .mediaLost rfl rfl rfl]
    exact yields_block he hf hk (by rw [hop]; rfl)

/-- The reply of a PROBE verb to its result, with no reply waiting. -/
theorem deliver_probeVerb {p : Part} {tag : Option Tag} {u : Nat} (hv : p.sup.verbRun = some (.probe tag port u))
    (hr : p.con.replies = []) (r : ProbeResult) :
    deliver (.probeVerb, .probe r) p =
      slotGivenBack (answers (accepted 0 tag ([.num port.num, .num u] ++ probeFields r)) p) := by
  simp only [deliver, verbResult, hv]
  rw [endProbe, replyRecord_alone hr]
  rfl

end Answers

/-- Settles O29: the answer's result, the port freed, and the delivery. -/
theorem deviceAnswersEndAProbe : Obligations.DeviceAnswersEndAProbe := by
  refine ⟨fun s port e f tag u c r fields he hf hop hunit hrq hv hrep h => ?_, fun s port e f c u he hf hu =>
    ⟨fun r hop h => ?_, fun block retries made r v hop h => ⟨_, yields_readAnswer he hf hop hu h, readDelivered_deliver r⟩⟩⟩
  · obtain ⟨x, hx, hrecord, rfl⟩ : ∃ x, probeAnswer e.kind port c x ∧ probedUnit x (e.units.getD f.unit freshUnit) = r ∧
        probeFields x = fields := by
      obtain ⟨hk, b0, b1, b2, rfl, h⟩ | ⟨hk, h⟩ | ⟨hk, h⟩ := h
      · obtain ⟨hsame, rfl, rfl⟩ | ⟨h10, h1f, rfl, rfl⟩ | ⟨h00, hff, hrange, rfl, rfl⟩ := h
        · exact ⟨.absent, .inl ⟨hk, b0, b1, b2, rfl, .inl ⟨hsame, rfl⟩⟩, rfl, rfl⟩
        · exact ⟨.ready _, .inl ⟨hk, b0, b1, b2, rfl, .inr (.inl ⟨h10, h1f, rfl⟩)⟩, rfl, rfl⟩
        · exact ⟨.notReady, .inl ⟨hk, b0, b1, b2, rfl, .inr (.inr ⟨h00, hff, hrange, rfl⟩)⟩, rfl, rfl⟩
      · obtain ⟨cap, rfl, hcap, rfl, rfl⟩ | ⟨hc, rfl, rfl⟩ := h
        · exact ⟨.ready _, .inr (.inl ⟨hk, .inl ⟨cap, rfl, hcap, rfl⟩⟩), rfl, rfl⟩
        · exact ⟨.notReady, .inr (.inl ⟨hk, .inr ⟨hc, rfl⟩⟩), rfl, rfl⟩
      · obtain ⟨cap, rfl, hcap, rfl, rfl⟩ | ⟨rfl, rfl, rfl⟩ | ⟨hc, rfl, rfl⟩ := h
        · exact ⟨.ready _, .inr (.inr ⟨hk, .inl ⟨cap, rfl, hcap, rfl⟩⟩), rfl, rfl⟩
        · exact ⟨.absent, .inr (.inr ⟨hk, .inr (.inl ⟨rfl, rfl⟩)⟩), rfl, rfl⟩
        · exact ⟨.notReady, .inr (.inr ⟨hk, .inr (.inr ⟨hc, rfl⟩)⟩), rfl, rfl⟩
    obtain ⟨hy, htimeout⟩ := yields_probeAnswer he hf hop hx
    rw [exchangeEnded_answer hop htimeout, hrq, deliver_probeVerb (by exact hv) (by exact hrep), hrecord, hunit] at hy
    exact hy
  · obtain ⟨hy, htimeout⟩ := yields_probeAnswer he hf hop h
    rw [exchangeEnded_answer hop htimeout, getD_unit hu] at hy
    exact ⟨_, hy, probeDelivered_deliver r⟩

/-! ### Failures, timeouts and retries (R9, R11, R12) -/

/-- The answers of devices that a READ retries (R9, R14, R16, R17). -/
def failedAnswer (kind : PortKind) (port : Port) (c : Instr) : Prop :=
  (kind = .flash ∧ ∃ data, data.length = 512 ∧ c = .flashExchangeEnd port (.block data true)) ∨
  (kind = .card ∧
    (c = .cardExchangeEnd port .errorMark ∨ ∃ data, data.length = 512 ∧ c = .cardExchangeEnd port (.block data false))) ∨
  (kind = .block ∧ (c = .blockExchangeEnd port .unitError ∨ c = .blockExchangeEnd port .otherStatus))

section Failures

variable {s : State} {port : Port} {e : PortEntry} {f : InFlight} {block retries made : Nat}

theorem yields_failedAnswer (he : entryOf s.toPart port = some e) (hf : e.op = some f) (hop : f.op = .read block retries made)
    {c : Instr} (h : failedAnswer e.kind port c) : Yields c s (exchangeEnded port e f .readFault s.toPart) := by
  obtain ⟨hk, data, hlen, rfl⟩ | ⟨hk, rfl | ⟨data, hlen, rfl⟩⟩ | ⟨hk, rfl | rfl⟩ := h
  · exact yields_flash he hf hk (by rw [hop]; exact if_neg (not_not_intro hlen))
  · exact yields_card he hf hk (by rw [hop]; rfl)
  · exact yields_card he hf hk (by rw [hop]; exact if_neg (not_not_intro hlen))
  · exact yields_block he hf hk (by rw [hop]; rfl)
  · exact yields_block he hf hk (by rw [hop]; rfl)

theorem yields_timeout (he : entryOf s.toPart port = some e) (hf : e.op = some f) (ht : f.timer ≠ none) :
    Yields (.exchangeTimeout port) s (exchangeEnded port e f .timeout s.toPart) := by
  have h : Yields (.exchangeTimeout port) s (exchangeExpiry port s.toPart) := rfl
  simpa only [exchangeExpiry, he, hf, Option.isSome_iff_ne_none.mpr ht, if_true] using h

theorem yields_noTimer (he : entryOf s.toPart port = some e) (hf : e.op = some f) (ht : f.timer = none) :
    Yields (.exchangeTimeout port) s s.toPart := by
  have h : Yields (.exchangeTimeout port) s (exchangeExpiry port s.toPart) := rfl
  simpa [exchangeExpiry, he, hf, ht] using h

variable {p : Part}

theorem unitAfterRead_failed {r : ExchangeResult} (h : r = .readFault ∨ r = .timeout) (u : UnitRecord) : unitAfterRead r u = u := by
  obtain rfl | rfl := h <;> rfl

/-- A failed answer with a retry left: another exchange, the count 0 (R9, R11). -/
theorem exchangeEnded_retry (hop : f.op = .read block retries made) (hlt : made < retries) (hu : f.unit < e.units.length) :
    exchangeEnded port e f .readFault p =
      setEntry port (reading { e with count := 0 } f.unit block retries (made + 1) f.requester) p := by
  have hno : readEnd .readFault block retries (made + 1) (countAfter .readFault e.count) = none := if_neg (by omega)
  rw [exchangeEnded_again hop hno, unitAfterRead_failed (.inl rfl), set_getD_unit hu]
  rfl

/-- A timeout with a retry left: another exchange, the count up by one (R9, R11). -/
theorem exchangeEnded_timeoutRetry (hop : f.op = .read block retries made) (hlt : made < retries) (hu : f.unit < e.units.length)
    (hc : e.count < 2) :
    exchangeEnded port e f .timeout p =
      setEntry port (reading { e with count := e.count + 1 } f.unit block retries (made + 1) f.requester) p := by
  have hno : readEnd .timeout block retries (made + 1) (countAfter .timeout e.count) = none := by
    refine if_neg ?_
    rintro (h | h)
    · have h3 : 3 ≤ e.count + 1 := h
      omega
    · omega
  rw [exchangeEnded_again hop hno, unitAfterRead_failed (.inr rfl), set_getD_unit hu]
  rfl

theorem exchangeEnded_failed {u : UnitRecord} (hop : f.op = .read block retries made) (hle : retries ≤ made)
    (hu : e.units[f.unit]? = some u) :
    exchangeEnded port e f .readFault p =
      deliver (f.requester, .read (.readFault block)) (setEntry port (portFreed e 0 f.unit u) p) := by
  have hends : readEnd .readFault block retries (made + 1) (countAfter .readFault e.count) = some (.readFault block) :=
    if_pos (by omega)
  rw [exchangeEnded_readEnds hop hends, getD_unit hu, unitAfterRead_failed (.inl rfl)]
  exact congrArg (deliver _) (endedPort_idle (count := 0) (by decide) port e f.unit u p)

/-- A timeout that ends a READ: no retry left, or the third in a row (R9, R12). -/
theorem exchangeEnded_timedOut {u : UnitRecord} (hop : f.op = .read block retries made) (h : retries ≤ made ∨ 2 ≤ e.count)
    (hu : e.units[f.unit]? = some u) :
    exchangeEnded port e f .timeout p =
      deliver (f.requester, .read (.readFault block)) (endedPort port e f.unit (e.count + 1) u p) := by
  have hends : readEnd .timeout block retries (made + 1) (countAfter .timeout e.count) = some (.readFault block) := by
    refine if_pos ?_
    obtain h | h := h
    · exact .inr (by omega)
    · exact .inl (Nat.succ_le_succ h)
  rw [exchangeEnded_readEnds hop hends, getD_unit hu]
  rfl

theorem exchangeEnded_probeTimeout {u : UnitRecord} (hop : f.op = .probe) (hu : e.units[f.unit]? = some u) :
    exchangeEnded port e f .timeout p =
      deliver (f.requester, .probe .timeout) (endedPort port e f.unit (e.count + 1) (probedUnit .timeout u) p) := by
  rw [exchangeEnded_probe hop, getD_unit hu]
  rfl

end Failures

/-- An exchange of a READ made again on a port that is not a LINK port. -/
theorem reading_device {e : PortEntry} (hk : e.kind ≠ .link) (unit block retries made : Nat) (rq : Requester) :
    reading e unit block retries made rq =
      { e with
        state := .busy
        op := some ⟨.read block retries made, unit, rq, some e.kind.timeoutMs, [], []⟩ } := by
  simp only [reading, if_neg hk]

/-- Settles O32: each failure or timeout, with what it leaves and to whom its result goes. -/
theorem failedExchangesRetryOrFault : Obligations.FailedExchangesRetryOrFault := by
  refine ⟨fun s port e f he hf => ⟨fun ht => yields_noTimer he hf ht,
      fun block retries made hop hlt hu => ⟨fun c hc => ?_, fun ht hk hc => ?_⟩,
    fun tag r hop ht hrq hv hrep hu => ⟨fun hc => ?_, fun hc => ?_⟩⟩,
    fun s port e f block retries made he hf hop hlt hu => ⟨fun c hc => ?_, fun hk ht hc => ?_⟩,
    fun s port e f u he hf hu => ⟨fun block retries made hop => ⟨fun c hle hc => ?_, fun ht => ⟨fun hle hc => ?_, fun hc => ?_⟩⟩,
      fun hop ht => ⟨fun hc => ?_, fun hc => ?_⟩⟩⟩
  · have hfailed : failedAnswer e.kind port c ∧ e.kind ≠ .link := by
      obtain ⟨data, hlen, rfl, hk⟩ | ⟨rfl, hk⟩ | ⟨rfl, hk⟩ := hc
      · exact ⟨.inl ⟨hk, data, hlen, rfl⟩, by simp [hk]⟩
      · exact ⟨.inr (.inl ⟨hk, .inl rfl⟩), by simp [hk]⟩
      · exact ⟨.inr (.inr ⟨hk, .inl rfl⟩), by simp [hk]⟩
    have h := yields_failedAnswer he hf hop hfailed.1
    rwa [exchangeEnded_retry hop hlt hu, reading_device (by exact hfailed.2)] at h
  · have h := yields_timeout he hf ht
    rwa [exchangeEnded_timeoutRetry hop hlt hu hc, reading_device (by exact hk)] at h
  · have h := yields_timeout he hf ht
    rw [exchangeEnded_probeTimeout hop hu, hrq, endedPort_idle (by omega), deliver_probeVerb (by exact hv) (by exact hrep)] at h
    exact h
  · have h := yields_timeout he hf ht
    rw [exchangeEnded_probeTimeout hop hu, hrq, endedPort_fault (by omega),
      deliver_probeVerb (by exact hv) (raise_replies (by exact hrep) _ _ _)] at h
    exact h
  · have hfailed : failedAnswer e.kind port c := by
      obtain ⟨hk, data, hlen, rfl⟩ | ⟨hk, rfl⟩ := hc
      · exact .inr (.inl ⟨hk, .inr ⟨data, hlen, rfl⟩⟩)
      · exact .inr (.inr ⟨hk, .inr rfl⟩)
    have h := yields_failedAnswer he hf hop hfailed
    rwa [exchangeEnded_retry hop hlt hu] at h
  · have h := yields_timeout he hf ht
    rwa [exchangeEnded_timeoutRetry hop hlt hu hc] at h
  · have hfailed : failedAnswer e.kind port c := by
      obtain ⟨data, hlen, rfl, hk⟩ | ⟨hc, hk⟩ | ⟨hc, hk⟩ := hc
      · exact .inl ⟨hk, data, hlen, rfl⟩
      · exact .inr (.inl ⟨hk, hc⟩)
      · exact .inr (.inr ⟨hk, hc⟩)
    have h := yields_failedAnswer he hf hop hfailed
    rw [exchangeEnded_failed hop hle hu] at h
    exact ⟨_, h, readDelivered_deliver _⟩
  · have h := yields_timeout he hf ht
    rw [exchangeEnded_timedOut hop (.inl hle) hu, endedPort_idle (by omega)] at h
    exact ⟨_, h, readDelivered_deliver _⟩
  · have h := yields_timeout he hf ht
    rw [exchangeEnded_timedOut hop (.inr hc) hu, endedPort_fault (by omega)] at h
    exact ⟨_, h, readDelivered_deliver _⟩
  · have h := yields_timeout he hf ht
    rw [exchangeEnded_probeTimeout hop hu, endedPort_idle (by omega)] at h
    exact ⟨_, h, probeDelivered_deliver _⟩
  · have h := yields_timeout he hf ht
    rw [exchangeEnded_probeTimeout hop hu, endedPort_fault (by omega)] at h
    exact ⟨_, h, probeDelivered_deliver _⟩

/-! ### Card events (R15, R16, R50) -/

section Card

variable {p : Part} {port : Port} {e : PortEntry}

theorem insertTold_waiting (h : p.sre.run.map SearchRun.stage = some .waiting) : insertTold p = endRoundWait p := by
  rw [insertTold, h]

theorem insertTold_elsewhere (h : p.sre.run.map SearchRun.stage ≠ some .waiting) : insertTold p = p := by
  unfold insertTold
  split
  · exact absurd ‹_› h
  · rfl

theorem cardIn_held (he : entryOf p port = some e) (hk : e.kind = .card) (hh : e.hold = some true) :
    cardIn port p =
      insertTold (raise 201 none [.num port.num]
        (setEntry port { e with units := e.units.set 0 ⟨.unknown, .notReady, none⟩, cardPresent := true, hold := none } p)) := by
  simp only [cardIn, he, if_pos (And.intro hk hh)]
  rfl

theorem cardOut_idle (he : entryOf p port = some e) (hk : e.kind = .card) (hh : e.hold = some false) (ho : e.op = none) :
    cardOut port p = raise 202 none [.num port.num] (setEntry port (cardEvent false e) p) := by
  have hend : endByRemoval (cardEvent false e) = cardEvent false e := by
    have hop : (cardEvent false e).op = none := ho
    rw [endByRemoval, hop]
  simp only [cardOut, he, if_pos (And.intro hk hh), ho, hend]

theorem cardOut_busy {f : InFlight} (he : entryOf p port = some e) (hk : e.kind = .card) (hh : e.hold = some false)
    (ho : e.op = some f) :
    cardOut port p =
      deliver (removalResult f)
        (raise 202 none [.num port.num]
          (setEntry port { portFreed e 0 0 ⟨.unknown, .notReady, none⟩ with cardPresent := false, hold := none } p)) := by
  have hend : endByRemoval (cardEvent false e) =
      { portFreed e 0 0 ⟨.unknown, .notReady, none⟩ with cardPresent := false, hold := none } := by
    have hop : (cardEvent false e).op = some f := ho
    rw [endByRemoval, hop]
    rfl
  simp only [cardOut, he, if_pos (And.intro hk hh), ho, hend]

end Card

/-- Settles O33: the sense input, the insert, and the removal with the result it gives the requester. -/
theorem cardEvents : Obligations.CardEvents := by
  intro s port e he
  have hin : Yields (.cardInserted port) s (cardIn port s.toPart) := rfl
  have hout : Yields (.cardRemoved port) s (cardOut port s.toPart) := rfl
  have hsense : ∀ card, Yields (.cardSenseChange port card) s (senseLevel port card s.toPart) := fun _ => rfl
  have he' : ∀ card, entryOf { s.toPart with spc := { s.spc with sense := s.spc.sense.set port card } } port = some e := fun _ => he
  refine ⟨fun card hk => ?_, fun card hk => ?_, fun hk hh hw => ?_, fun hk hh hw => ?_, fun hk hh ho => ?_,
    fun f tag hk hh ho hop hu hrq hv hrep => ?_, ?_⟩
  · have h := hsense card
    simp only [senseLevel, he', if_pos hk] at h
    exact h
  · have h := hsense card
    simp only [senseLevel, he', if_neg hk] at h
    exact h
  · rwa [cardIn_held he hk hh, insertTold_elsewhere (by exact hw)] at hin
  · rwa [cardIn_held he hk hh, insertTold_waiting (by exact hw)] at hin
  · rwa [cardOut_idle he hk hh ho] at hout
  · rw [cardOut_busy he hk hh ho, removalResult, hop, hrq, deliver_probeVerb (by exact hv) (raise_replies (by exact hrep) _ _ _)] at hout
    exact hout
  · rintro f removed hk hh ho rfl
    rw [cardOut_busy he hk hh ho] at hout
    refine ⟨fun hop => ?_, fun block retries made hop => ?_⟩
    · rw [removalResult, hop] at hout
      exact ⟨_, hout, probeDelivered_deliver _⟩
    · rw [removalResult, hop] at hout
      exact ⟨_, hout, readDelivered_deliver _⟩

end Sys2Proof.Proofs

/-! PROOFS. Byte layouts and LINK frames: integers of a layout, answer frames, and the bytes that a LINK port receives (R18, R19, R25). -/

namespace Sys2Proof.Proofs

open Sys2Proof Sys2Proof.Machine

/-! ### Integers of a layout (00_scope.md section 5.2) -/

theorem leValue_leBytes (n v : Nat) : leValue (leBytes n v) = v % 256 ^ n := by
  induction n generalizing v with
  | zero => rw [leBytes, leValue, Nat.pow_zero, Nat.mod_one]
  | succ n ih =>
    have h : v % (256 * 256 ^ n) = v % 256 + 256 * (v / 256 % 256 ^ n) := Nat.mod_mul
    rw [leBytes, leValue, ih, BitVec.toNat_ofNat, Nat.pow_succ' (m := 256), h]

theorem length_leBytes (n v : Nat) : (leBytes n v).length = n := by
  induction n generalizing v with
  | zero => rfl
  | succ n ih => rw [leBytes, List.length_cons, ih]

/-- An integer written at its position reads back. -/
theorem field_append {before : List Byte} {pos n v : Nat} (h : before.length = pos) (hv : v < 256 ^ n) (after : List Byte) :
    field (before ++ (leBytes n v ++ after)) pos n = v := by
  rw [field, List.drop_append_of_le_length (Nat.le_of_eq h.symm), List.drop_of_length_le (Nat.le_of_eq h), List.nil_append,
    List.take_append_of_le_length (Nat.le_of_eq (length_leBytes n v).symm), List.take_of_length_le (Nat.le_of_eq (length_leBytes n v)), leValue_leBytes,
    Nat.mod_eq_of_lt hv]

theorem field_take {bs : List Byte} {pos n k : Nat} (h : pos + n ≤ k) : field (bs.take k) pos n = field bs pos n := by
  rw [field, field, List.drop_take, List.take_take, Nat.min_eq_left (by omega)]

/-! ### Frames (R18, R25) -/

/-- The bytes of a frame after its start byte, up to the end that its payload length gives (R18). -/
def frameEnd (body : List Byte) : Nat :=
  if field body 6 2 ≠ 0 ∧ field body 6 2 ≠ 4 ∧ field body 6 2 ≠ 512 then 8 else 8 + field body 6 2 + 2

/-- What the bytes after a start byte make. -/
def assembledBody (body : List Byte) : Assembled :=
  if body.length < frameEnd body ∨ body.length < 8 then .incomplete
  else if field body 6 2 ≠ 0 ∧ field body 6 2 ≠ 4 ∧ field body 6 2 ≠ 512 then .malformed
  else
    .frame
      { type := field body 0 1, slot := field body 1 1, block := field body 2 4, payload := (body.drop 8).take (field body 6 2)
        crcHolds := (crc16 (body.take (8 + field body 6 2))).toNat = field body (8 + field body 6 2) 2 }

theorem dropWhile_start {junk : List Byte} (h : ∀ b ∈ junk, b ≠ 0x7E) (body : List Byte) :
    (junk ++ 0x7E :: body).dropWhile (fun b => b ≠ 0x7E) = 0x7E :: body := by
  rw [List.dropWhile_append_of_pos (by simpa using h), List.dropWhile_cons_of_neg (by simp)]

theorem dropWhile_noStart {junk : List Byte} (h : ∀ b ∈ junk, b ≠ 0x7E) : junk.dropWhile (fun b => b ≠ 0x7E) = [] := by
  have hall := List.dropWhile_append_of_pos (p := fun b : Byte => decide (b ≠ 0x7E)) (l₁ := junk) (l₂ := []) (by simpa using h)
  rwa [List.append_nil] at hall

theorem assemble_noStart {junk : List Byte} (h : ∀ b ∈ junk, b ≠ 0x7E) : assemble junk = .incomplete := by
  rw [assemble, dropWhile_noStart h]

theorem assemble_start {junk : List Byte} (h : ∀ b ∈ junk, b ≠ 0x7E) (body : List Byte) :
    assemble (junk ++ 0x7E :: body) = assembledBody body := by
  rw [assemble, dropWhile_start h]
  dsimp only
  unfold assembledBody frameEnd
  by_cases h8 : body.length < 8
  · rw [if_pos h8, if_pos (.inr h8)]
  · rw [if_neg h8]
    by_cases hm : field body 6 2 ≠ 0 ∧ field body 6 2 ≠ 4 ∧ field body 6 2 ≠ 512
    · simp only [if_pos hm, h8, or_self, if_false]
    · simp only [if_neg hm, h8, or_false]

theorem afterFrame_start {junk : List Byte} (h : ∀ b ∈ junk, b ≠ 0x7E) (body : List Byte) :
    afterFrame (junk ++ 0x7E :: body) = body.drop (frameEnd body) := by
  rw [afterFrame, dropWhile_start h]
  dsimp only
  unfold frameEnd
  split <;> rfl

theorem eight_le_frameEnd (body : List Byte) : 8 ≤ frameEnd body := by
  unfold frameEnd
  split
  · exact Nat.le_refl _
  · omega

theorem assembledBody_incomplete_iff (body : List Byte) : assembledBody body = .incomplete ↔ body.length < frameEnd body := by
  have h8 := eight_le_frameEnd body
  unfold assembledBody
  constructor
  · intro h
    refine Classical.byContradiction fun hno => ?_
    rw [if_neg (by omega)] at h
    split at h <;> cases h
  · intro h
    rw [if_pos (.inl h)]

/-- Bytes up to a start byte and those after it. -/
theorem start_cases (xs : List Byte) :
    (∀ b ∈ xs, b ≠ 0x7E) ∨ ∃ junk body, xs = junk ++ 0x7E :: body ∧ ∀ b ∈ junk, b ≠ 0x7E := by
  by_cases h : 0x7E ∈ xs
  · obtain ⟨junk, body, rfl, hj⟩ := List.eq_append_cons_of_mem h
    exact .inr ⟨junk, body, rfl, fun b hb hx => hj (hx ▸ hb)⟩
  · exact .inl fun b hb hx => h (hx ▸ hb)

/-- Bytes that agree up to the end of the frame make the same of it. -/
theorem assembledBody_congr {body body' : List Byte} (h : body'.take (frameEnd body) = body.take (frameEnd body))
    (hlen : frameEnd body ≤ body.length) (hlen' : frameEnd body ≤ body'.length) :
    assembledBody body' = assembledBody body ∧ frameEnd body' = frameEnd body := by
  have h8 := eight_le_frameEnd body
  have hfield : ∀ pos n, pos + n ≤ frameEnd body → field body' pos n = field body pos n := fun pos n hle => by
    rw [← field_take hle, h, field_take hle]
  have hlength : field body' 6 2 = field body 6 2 := hfield 6 2 (by omega)
  have hend : frameEnd body' = frameEnd body := by rw [frameEnd, frameEnd, hlength]
  refine ⟨?_, hend⟩
  have htake : ∀ k, k ≤ frameEnd body → body'.take k = body.take k := fun k hk => by
    have hx := congrArg (List.take k) h
    rwa [List.take_take, List.take_take, Nat.min_eq_left hk] at hx
  have hno : ¬ (body.length < frameEnd body ∨ body.length < 8) := by omega
  have hno' : ¬ (body'.length < frameEnd body ∨ body'.length < 8) := by omega
  unfold assembledBody
  rw [hend, hlength, if_neg hno, if_neg hno']
  by_cases hm : field body 6 2 ≠ 0 ∧ field body 6 2 ≠ 4 ∧ field body 6 2 ≠ 512
  · rw [if_pos hm, if_pos hm]
  · have hfe : frameEnd body = 8 + field body 6 2 + 2 := if_neg hm
    have hpayload : (body'.drop 8).take (field body 6 2) = (body.drop 8).take (field body 6 2) := by
      rw [List.take_drop, List.take_drop, htake _ (by omega)]
    rw [if_neg hm, if_neg hm, hfield 0 1 (by omega), hfield 1 1 (by omega), hfield 2 4 (by omega), hpayload, htake _ (by omega),
      hfield _ 2 (by omega)]

/-- Bytes that make a frame, or a malformed one, make it with whatever follows, which comes after the frame. -/
theorem assemble_append {xs : List Byte} (h : assemble xs ≠ .incomplete) (ys : List Byte) :
    assemble (xs ++ ys) = assemble xs ∧ afterFrame (xs ++ ys) = afterFrame xs ++ ys := by
  obtain hno | ⟨junk, body, rfl, hj⟩ := start_cases xs
  · exact absurd (assemble_noStart hno) h
  · rw [assemble_start hj, ne_eq, assembledBody_incomplete_iff, Nat.not_lt] at h
    obtain ⟨hsame, hend⟩ := assembledBody_congr (body := body) (body' := body ++ ys) (List.take_append_of_le_length h) h
      (by rw [List.length_append]; omega)
    rw [List.append_assoc, List.cons_append, assemble_start hj, assemble_start hj, afterFrame_start hj, afterFrame_start hj, hsame,
      hend, List.drop_append_of_le_length h]
    exact ⟨rfl, rfl⟩

/-- What bytes make is settled by those up to the end of the frame. -/
theorem assemble_take {xs : List Byte} (h : assemble xs ≠ .incomplete) {m : Nat} (hm : xs.length ≤ m + (afterFrame xs).length) :
    assemble (xs.take m) = assemble xs := by
  obtain hno | ⟨junk, body, rfl, hj⟩ := start_cases xs
  · exact absurd (assemble_noStart hno) h
  · rw [assemble_start hj, ne_eq, assembledBody_incomplete_iff, Nat.not_lt] at h
    rw [afterFrame_start hj, List.length_append, List.length_cons, List.length_drop] at hm
    obtain ⟨k, rfl⟩ : ∃ k, m = junk.length + (k + 1) := ⟨m - junk.length - 1, by omega⟩
    have hk : frameEnd body ≤ k := by omega
    obtain ⟨hsame, -⟩ := assembledBody_congr (body := body) (body' := body.take k)
      (by rw [List.take_take, Nat.min_eq_left hk]) h (by rw [List.length_take]; omega)
    rw [List.take_length_add_append, List.take_succ_cons, assemble_start hj, assemble_start hj, hsame]

theorem length_afterFrame {xs : List Byte} (h : assemble xs ≠ .incomplete) : (afterFrame xs).length < xs.length := by
  obtain hno | ⟨junk, body, rfl, hj⟩ := start_cases xs
  · exact absurd (assemble_noStart hno) h
  · rw [afterFrame_start hj, List.length_append, List.length_cons, List.length_drop]
    omega

/-! ### Answer frames (R18, R25) -/

section Layout

variable {type slot block : Nat} {payload : List Byte}

/-- The bytes of an answer frame after its start byte and before its CRC (R25). -/
def answerBody (type slot block : Nat) (payload : List Byte) : List Byte :=
  leBytes 1 type ++ leBytes 1 slot ++ leBytes 4 block ++ leBytes 2 payload.length ++ payload

theorem length_answerBody : (answerBody type slot block payload).length = 8 + payload.length := by
  simp only [answerBody, List.length_append, length_leBytes]

theorem field_answerBody (ht : type < 0x100) (hs : slot < 0x100) (hb : block < 0x100000000) (hp : payload.length < 0x10000)
    (tail : List Byte) :
    field (answerBody type slot block payload ++ tail) 0 1 = type ∧ field (answerBody type slot block payload ++ tail) 1 1 = slot ∧
      field (answerBody type slot block payload ++ tail) 2 4 = block ∧
      field (answerBody type slot block payload ++ tail) 6 2 = payload.length := by
  have h0 := field_append (before := []) (pos := 0) (n := 1) (v := type) rfl (by omega)
    (leBytes 1 slot ++ leBytes 4 block ++ leBytes 2 payload.length ++ payload ++ tail)
  have h1 := field_append (before := leBytes 1 type) (pos := 1) (n := 1) (v := slot) (length_leBytes _ _) (by omega)
    (leBytes 4 block ++ leBytes 2 payload.length ++ payload ++ tail)
  have h2 := field_append (before := leBytes 1 type ++ leBytes 1 slot) (pos := 2) (n := 4) (v := block)
    (by simp [length_leBytes]) (by omega) (leBytes 2 payload.length ++ payload ++ tail)
  have h6 := field_append (before := leBytes 1 type ++ leBytes 1 slot ++ leBytes 4 block) (pos := 6) (n := 2)
    (v := payload.length) (by simp [length_leBytes]) (by omega) (payload ++ tail)
  simp only [List.append_assoc, List.nil_append] at h0 h1 h2 h6
  simp only [answerBody, List.append_assoc]
  exact ⟨h0, h1, h2, h6⟩

end Layout

/-- Settles O31: the layout's fields read back, and the frame ends with its CRC. -/
theorem answerFramesReadBack : Obligations.AnswerFramesReadBack := by
  intro junk type slot block payload body hj ht hs hb hp hbody
  obtain rfl : body = answerBody type slot block payload := hbody
  have hlen : payload.length < 0x10000 := by
    simp only [List.mem_cons, List.not_mem_nil, or_false] at hp
    omega
  have hok : ¬ (payload.length ≠ 0 ∧ payload.length ≠ 4 ∧ payload.length ≠ 512) := by
    simp only [List.mem_cons, List.not_mem_nil, or_false] at hp
    omega
  generalize hcrc : leBytes 2 (crc16 (answerBody type slot block payload)).toNat = crc
  have hcrclen : crc.length = 2 := by rw [← hcrc, length_leBytes]
  obtain ⟨h0, h1, h2, h6⟩ := field_answerBody ht hs hb hlen crc
  have hend : frameEnd (answerBody type slot block payload ++ crc) = 8 + payload.length + 2 := by
    rw [frameEnd, h6, if_neg hok]
  have hbody := length_answerBody (type := type) (slot := slot) (block := block) (payload := payload)
  have htotal : (answerBody type slot block payload ++ crc).length = 8 + payload.length + 2 := by
    rw [List.length_append, hbody, hcrclen]
  rw [List.append_assoc, List.cons_append]
  constructor
  · rw [assemble_start hj, assembledBody, hend, if_neg (by omega), h0, h1, h2, h6, if_neg hok]
    have htake : (answerBody type slot block payload ++ crc).take (8 + payload.length) = answerBody type slot block payload := by
      rw [← hbody, List.take_left]
    have hpayload : ((answerBody type slot block payload ++ crc).drop 8).take payload.length = payload := by
      rw [List.take_drop, htake, answerBody, List.drop_left' (by simp [length_leBytes])]
    have hfield : field (answerBody type slot block payload ++ crc) (8 + payload.length) 2 =
        (crc16 (answerBody type slot block payload)).toNat := by
      have hx := field_append (n := 2) hbody (crc16 (answerBody type slot block payload)).isLt []
      rwa [List.append_nil, hcrc] at hx
    rw [htake, hpayload, hfield]
    simp
  · intro n hn
    rw [hbody] at hn
    by_cases hle : n ≤ junk.length
    · rw [List.take_append_of_le_length hle]
      exact assemble_noStart fun b hb => hj b (List.mem_of_mem_take hb)
    · obtain ⟨k, rfl⟩ : ∃ k, n = junk.length + (k + 1) := ⟨n - junk.length - 1, by omega⟩
      rw [List.take_length_add_append, List.take_succ_cons, assemble_start hj, assembledBody_incomplete_iff]
      generalize answerBody type slot block payload ++ crc = whole at h6 hend htotal
      rw [List.length_take]
      have h8 := eight_le_frameEnd (whole.take k)
      by_cases hk : 8 ≤ k
      · rw [frameEnd, field_take (by omega), h6, if_neg hok]
        omega
      · omega

end Sys2Proof.Proofs

/-! PROOFS. What the bytes received on a LINK port do: frames for the request outstanding, and the bytes after them (R18, R19). -/

namespace Sys2Proof.Proofs

open Sys2Proof Sys2Proof.Machine

-- One proof after another: all of them at once would take a thread and its stack each.
set_option Elab.async false

/-! ### Pieces (R18) -/

/-- A LINK port with no request outstanding, or a port that is not one. -/
def LinkIdle (port : Port) (p : Part) : Prop := ∀ e, entryOf p port = some e → e.op = none ∨ e.kind ≠ .link

theorem linkPiece_idle {port : Port} {p : Part} (h : LinkIdle port p) (bytes : List Byte) : linkPiece port p bytes = p := by
  unfold linkPiece
  split
  · rfl
  · rename_i e he
    split
    · rfl
    · rename_i f hf
      obtain ho | hk := h e he
      · cases ho.symm.trans hf
      · rw [if_pos hk]

theorem foldl_linkPiece_idle {port : Port} {p : Part} (h : LinkIdle port p) (pieces : List (List Byte)) :
    pieces.foldl (linkPiece port) p = p := by
  induction pieces with
  | nil => rfl
  | cons b bs ih => rw [List.foldl_cons, linkPiece_idle h, ih]

theorem linkPieces_incomplete {received bytes : List Byte} (h : assemble (received ++ bytes) = .incomplete) (n : Nat) :
    linkPieces (n + 1) received bytes = [bytes] := by
  rw [linkPieces, h]

theorem linkPieces_complete {received bytes : List Byte} (h : assemble (received ++ bytes) ≠ .incomplete) (n : Nat) :
    linkPieces (n + 1) received bytes =
      bytes.take (bytes.length - (afterFrame (received ++ bytes)).length) ::
        (if afterFrame (received ++ bytes) = [] then [] else linkPieces n [] (afterFrame (received ++ bytes))) := by
  rw [linkPieces]
  split
  · exact absurd ‹_› h
  · rfl

/-- No more pieces are cut than there are bytes, and one for what is left. -/
theorem linkPieces_enough {n m : Nat} {bytes : List Byte} (hn : bytes.length < n) (hm : bytes.length < m) :
    linkPieces n [] bytes = linkPieces m [] bytes := by
  induction n generalizing m bytes with
  | zero => exact absurd hn (Nat.not_lt_zero _)
  | succ n ih =>
    obtain ⟨m, rfl⟩ := Nat.exists_eq_succ_of_ne_zero (Nat.ne_of_gt (Nat.zero_lt_of_lt hm))
    by_cases hc : assemble ([] ++ bytes) = .incomplete
    · rw [linkPieces_incomplete hc, linkPieces_incomplete hc]
    · have hlt : (afterFrame ([] ++ bytes)).length < bytes.length := length_afterFrame hc
      rw [linkPieces_complete hc, linkPieces_complete hc, ih (m := m) (by omega) (by omega)]

/-- Nothing follows the frame of bytes that make it with their last. -/
theorem afterFrame_minimal {received bytes : List Byte} (hne : bytes ≠ [])
    (hmin : ∀ n, n < bytes.length → assemble (received ++ bytes.take n) = .incomplete)
    (h : assemble (received ++ bytes) ≠ .incomplete) : afterFrame (received ++ bytes) = [] := by
  refine Classical.byContradiction fun hrest => ?_
  have hpos := List.length_pos_iff.mpr hrest
  have hlen := List.length_pos_iff.mpr hne
  have htake := assemble_take h (m := received.length + (bytes.length - 1)) (by rw [List.length_append]; omega)
  rw [List.take_length_add_append, hmin _ (by omega)] at htake
  exact h htake.symm

/-! ### One piece (R18, R19) -/

/-- The result that assembled bytes give the exchange, none while they are not yet a frame (R19). -/
def linkResult (op : PortOp) (unit : Nat) : Assembled → Option ExchangeResult
  | .incomplete => none
  | .malformed => some (badAnswer op)
  | .frame x => some (judgeFrame op unit x)

section Piece

variable {p : Part} {port : Port} {e : PortEntry} {f : InFlight} {bytes : List Byte}

theorem linkPiece_incomplete (he : entryOf p port = some e) (hf : e.op = some f) (hk : e.kind = .link)
    (h : assemble (f.received ++ bytes) = .incomplete) :
    linkPiece port p bytes = setEntry port { e with op := some { f with received := f.received ++ bytes } } p := by
  simp only [linkPiece, he, hf, hk, ne_eq, not_true_eq_false, if_false, h]

theorem linkPiece_result (he : entryOf p port = some e) (hf : e.op = some f) (hk : e.kind = .link) {r : ExchangeResult}
    (h : linkResult f.op f.unit (assemble (f.received ++ bytes)) = some r) :
    linkPiece port p bytes = exchangeEnded port e f r p := by
  simp only [linkPiece, he, hf, hk, ne_eq, not_true_eq_false, if_false]
  cases ha : assemble (f.received ++ bytes) with
  | incomplete => rw [ha] at h; cases h
  | malformed => rw [ha] at h; cases h; rfl
  | frame x => rw [ha] at h; cases h; rfl

/-- A piece acts by what it assembles to. -/
theorem linkPiece_congr (he : entryOf p port = some e) (hf : e.op = some f) (hk : e.kind = .link) {piece : List Byte}
    (hsame : assemble (f.received ++ piece) = assemble (f.received ++ bytes)) (h : assemble (f.received ++ bytes) ≠ .incomplete) :
    linkPiece port p piece = linkPiece port p bytes := by
  simp only [linkPiece, he, hf, hk, ne_eq, not_true_eq_false, if_false, hsame]
  split
  · exact absurd ‹_› h
  · rfl
  · rfl

theorem linkBytes_outstanding (he : entryOf p port = some e) (hf : e.op = some f) (bytes : List Byte) :
    linkBytes port bytes p = (linkPieces (bytes.length + 1) f.received bytes).foldl (linkPiece port) p := by
  simp only [linkBytes, he, Option.bind_some, hf, Option.map_some, Option.getD_some]

theorem linkBytes_idle (h : LinkIdle port p) (bytes : List Byte) : linkBytes port bytes p = p := foldl_linkPiece_idle h _

theorem linkBytes_incomplete (he : entryOf p port = some e) (hf : e.op = some f)
    (h : assemble (f.received ++ bytes) = .incomplete) : linkBytes port bytes p = linkPiece port p bytes := by
  rw [linkBytes_outstanding he hf, linkPieces_incomplete h]
  rfl

/-- The first piece makes what all the bytes make. -/
theorem assemble_firstPiece {received bytes : List Byte} (h : assemble (received ++ bytes) ≠ .incomplete) :
    assemble (received ++ bytes.take (bytes.length - (afterFrame (received ++ bytes)).length)) = assemble (received ++ bytes) := by
  rw [← List.take_length_add_append]
  exact assemble_take h (by rw [List.length_append]; omega)

/-- A frame that leaves the port with nothing outstanding: the bytes after it are discarded. -/
theorem linkBytes_ends (he : entryOf p port = some e) (hf : e.op = some f) (hk : e.kind = .link)
    (h : assemble (f.received ++ bytes) ≠ .incomplete) (hidle : LinkIdle port (linkPiece port p bytes)) :
    linkBytes port bytes p = linkPiece port p bytes := by
  rw [linkBytes_outstanding he hf, linkPieces_complete h, List.foldl_cons,
    linkPiece_congr he hf hk (assemble_firstPiece h) h, foldl_linkPiece_idle hidle]

/-- Bytes of which only the last makes a frame act as one piece. -/
theorem linkBytes_minimal (he : entryOf p port = some e) (hf : e.op = some f) (hk : e.kind = .link)
    (hmin : ∀ n, n < bytes.length → assemble (f.received ++ bytes.take n) = .incomplete) :
    linkBytes port bytes p = linkPiece port p bytes := by
  by_cases h : assemble (f.received ++ bytes) = .incomplete
  · exact linkBytes_incomplete he hf h
  · rw [linkBytes_outstanding he hf, linkPieces_complete h, List.foldl_cons, linkPiece_congr he hf hk (assemble_firstPiece h) h]
    by_cases hne : bytes = []
    · subst hne
      split <;> rfl
    · rw [if_pos (afterFrame_minimal hne hmin h)]
      rfl

theorem withReceived_nil (hf : e.op = some f) (hr : f.received = []) : { e with op := some { f with received := [] } } = e := by
  obtain ⟨⟩ := e
  obtain ⟨⟩ := f
  cases hf
  cases hr
  rfl

/-- Bytes after a frame act as bytes received after it. -/
theorem linkBytes_append {rest : List Byte} (he : entryOf p port = some e) (hf : e.op = some f) (hk : e.kind = .link)
    (hne : bytes ≠ []) (hmin : ∀ n, n < bytes.length → assemble (f.received ++ bytes.take n) = .incomplete)
    (h : assemble (f.received ++ bytes) ≠ .incomplete)
    (hfresh : ∀ e' f', entryOf (linkBytes port bytes p) port = some e' → e'.op = some f' → f'.received = []) :
    linkBytes port (bytes ++ rest) p = linkBytes port rest (linkBytes port bytes p) := by
  have hafter := afterFrame_minimal hne hmin h
  obtain ⟨hsame, hrest⟩ := assemble_append h rest
  rw [hafter, List.nil_append, List.append_assoc] at hrest
  rw [List.append_assoc] at hsame
  have hcomplete : assemble (f.received ++ (bytes ++ rest)) ≠ .incomplete := by rwa [hsame]
  have hfirst : linkBytes port bytes p = linkPiece port p bytes := linkBytes_minimal he hf hk hmin
  have htake : (bytes ++ rest).take ((bytes ++ rest).length - rest.length) = bytes := by simp
  have hlen := List.length_pos_iff.mpr hne
  rw [linkBytes_outstanding he hf, linkPieces_complete hcomplete, hrest, htake, List.foldl_cons, ← hfirst]
  generalize linkBytes port bytes p = q at hfresh
  have hpieces : (if rest = [] then [] else linkPieces (bytes ++ rest).length [] rest).foldl (linkPiece port) q =
      (linkPieces (rest.length + 1) [] rest).foldl (linkPiece port) q := by
    by_cases hr : rest = []
    · subst hr
      rw [if_pos rfl, linkPieces_incomplete (assemble_noStart (by simp))]
      change q = linkPiece port q []
      by_cases hidle : LinkIdle port q
      · rw [linkPiece_idle hidle]
      · obtain ⟨e', he', hno⟩ : ∃ e', entryOf q port = some e' ∧ ¬ (e'.op = none ∨ e'.kind ≠ .link) := by
          simpa [LinkIdle] using hidle
        obtain ⟨f', hf'⟩ := Option.ne_none_iff_exists'.mp fun ho => hno (.inl ho)
        have hnil := hfresh e' f' he' hf'
        rw [linkPiece_incomplete he' hf' (Classical.not_not.mp fun hk => hno (.inr hk)) (by rw [hnil]; exact assemble_noStart (by simp)),
          hnil]
        exact (setEntry_self (he'.trans (congrArg some (withReceived_nil hf' hnil).symm))).symm
    · rw [if_neg hr, linkPieces_enough (m := rest.length + 1) (by rw [List.length_append]; omega) (by omega)]
  rw [hpieces]
  cases hq : entryOf q port with
  | none =>
    have hidle : LinkIdle port q := fun e' he' => by cases hq.symm.trans he'
    rw [foldl_linkPiece_idle hidle, linkBytes_idle hidle]
  | some e' =>
    cases ho : e'.op with
    | none =>
      have hidle : LinkIdle port q := fun e'' he'' => by
        cases hq.symm.trans he''
        exact .inl ho
      rw [foldl_linkPiece_idle hidle, linkBytes_idle hidle]
    | some f' => rw [linkBytes_outstanding hq ho, hfresh e' f' hq ho]

end Piece

/-! ### Answers (R19) -/

/-- What the answer to a PROBE gives, as its bytes assemble (R19). -/
def LinkProbe (unit : Nat) (a : Assembled) (r : ProbeResult) : Prop :=
  (a = .malformed ∧ r = .notReady) ∨
    ∃ x, a = .frame x ∧
      ((x.crcHolds = true ∧ x.slot = unit ∧ x.type = 0x81 ∧ x.payload.length = 4 ∧ leValue x.payload ≠ 0 ∧
          r = .ready (leValue x.payload)) ∨
        (x.crcHolds = true ∧ x.slot = unit ∧ x.type = 0x84 ∧ r = .absent) ∨
        ((x.crcHolds = false ∨ x.slot ≠ unit ∨ (x.type ≠ 0x81 ∧ x.type ≠ 0x84) ∨
          (x.type = 0x81 ∧ (x.payload.length ≠ 4 ∨ leValue x.payload = 0))) ∧ r = .notReady))

theorem judgeFrame_bad {op : PortOp} {unit : Nat} {x : LinkFrame} (h : x.crcHolds = false ∨ x.slot ≠ unit) :
    judgeFrame op unit x = badAnswer op := if_pos h

theorem judgeFrame_probe {unit : Nat} {x : LinkFrame} (hc : x.crcHolds = true) (hs : x.slot = unit) :
    judgeFrame .probe unit x =
      if x.type = 0x81 then (if x.payload.length = 4 ∧ leValue x.payload ≠ 0 then .ready (leValue x.payload) else .notReady)
      else if x.type = 0x84 then .absent else .notReady := by
  have hgood : ¬ (x.crcHolds = false ∨ x.slot ≠ unit) := by simp [hc, hs]
  unfold judgeFrame
  rw [if_neg hgood]
  generalize x.type = t
  by_cases h81 : t = 0x81
  · subst h81
    simp
  by_cases h82 : t = 0x82
  · subst h82
    simp
  by_cases h83 : t = 0x83
  · subst h83
    simp
  by_cases h84 : t = 0x84
  · subst h84
    simp
  · simp [badAnswer, h81, h82, h83, h84]

/-- The answer to a PROBE as an exchange's result (R19). -/
theorem linkResult_probe {unit : Nat} {a : Assembled} {r : ProbeResult} (h : LinkProbe unit a r) :
    linkResult .probe unit a = some (exchangeOf r) ∧ r ≠ .timeout := by
  obtain ⟨rfl, rfl⟩ | ⟨x, rfl, h⟩ := h
  · exact ⟨rfl, nofun⟩
  · obtain ⟨hc, hs, ht, hl, hv, rfl⟩ | ⟨hc, hs, ht, rfl⟩ | ⟨h, rfl⟩ := h
    · rw [linkResult, judgeFrame_probe hc hs, if_pos ht, if_pos ⟨hl, hv⟩]
      exact ⟨rfl, nofun⟩
    · rw [linkResult, judgeFrame_probe hc hs, if_neg (by omega), if_pos ht]
      exact ⟨rfl, nofun⟩
    · refine ⟨congrArg some ?_, nofun⟩
      by_cases hbad : x.crcHolds = false ∨ x.slot ≠ unit
      · exact judgeFrame_bad hbad
      · obtain ⟨hc, hs⟩ : x.crcHolds = true ∧ x.slot = unit := by simpa using hbad
        rw [judgeFrame_probe hc hs]
        by_cases h81 : x.type = 0x81
        · rw [if_pos h81, if_neg]
          · rfl
          · rintro ⟨hl, hv⟩
            obtain hx | hx | ⟨hx, -⟩ | ⟨-, hx | hx⟩ := h
            · cases hc.symm.trans hx
            · exact hx hs
            · exact hx h81
            · exact hx hl
            · exact hv hx
        · rw [if_neg h81, if_neg]
          · rfl
          · intro h84
            obtain hx | hx | ⟨-, hx⟩ | ⟨hx, -⟩ := h
            · cases hc.symm.trans hx
            · exact hx hs
            · exact hx h84
            · exact h81 hx

theorem judgeFrame_read {unit block retries made : Nat} {x : LinkFrame} (hc : x.crcHolds = true) (hs : x.slot = unit) :
    judgeFrame (.read block retries made) unit x =
      if x.type = 0x82 then (if x.payload.length = 512 ∧ x.block = block then .data x.payload else .readFault)
      else if x.type = 0x83 then .notReady
      else if x.type = 0x84 then .mediaLost else .readFault := by
  have hgood : ¬ (x.crcHolds = false ∨ x.slot ≠ unit) := by simp [hc, hs]
  unfold judgeFrame
  rw [if_neg hgood]
  generalize x.type = t
  by_cases h81 : t = 0x81
  · subst h81
    simp
  by_cases h82 : t = 0x82
  · subst h82
    simp
  by_cases h83 : t = 0x83
  · subst h83
    simp
  by_cases h84 : t = 0x84
  · subst h84
    simp
  · simp [badAnswer, h81, h82, h83, h84]

/-- An answer to a READ that is a failure (R9, R19). -/
def LinkFailure (unit block : Nat) (a : Assembled) : Prop :=
  a = .malformed ∨
    ∃ x, a = .frame x ∧
      (x.crcHolds = false ∨ x.slot ≠ unit ∨ x.type ∉ [0x82, 0x83, 0x84] ∨
        (x.type = 0x82 ∧ (x.payload.length ≠ 512 ∨ x.block ≠ block)))

theorem linkResult_failure {unit block retries made : Nat} {a : Assembled} (h : LinkFailure unit block a) :
    linkResult (.read block retries made) unit a = some .readFault := by
  obtain rfl | ⟨x, rfl, h⟩ := h
  · rfl
  · refine congrArg some ?_
    by_cases hbad : x.crcHolds = false ∨ x.slot ≠ unit
    · exact judgeFrame_bad hbad
    · obtain ⟨hc, hs⟩ : x.crcHolds = true ∧ x.slot = unit := by simpa using hbad
      obtain hx | hx | hx | ⟨h82, hx⟩ := h
      · cases hc.symm.trans hx
      · exact absurd hs hx
      · simp only [List.mem_cons, List.not_mem_nil, or_false, not_or] at hx
        obtain ⟨h82, h83, h84⟩ := hx
        rw [judgeFrame_read hc hs, if_neg h82, if_neg h83, if_neg h84]
      · rw [judgeFrame_read hc hs, if_pos h82, if_neg]
        rintro ⟨hl, hb⟩
        exact hx.elim (absurd hl) (absurd hb)

theorem linkResult_complete {op : PortOp} {unit : Nat} {a : Assembled} {r : ExchangeResult} (h : linkResult op unit a = some r) :
    a ≠ .incomplete := by
  rintro rfl
  cases h

section Answer

variable {s : State} {port : Port} {e : PortEntry} {f : InFlight} {bytes : List Byte}

/-- Bytes of which only the last makes the answer end the exchange with its result. -/
theorem yields_linkAnswer (he : entryOf s.toPart port = some e) (hf : e.op = some f) (hk : e.kind = .link)
    (hmin : ∀ n, n < bytes.length → assemble (f.received ++ bytes.take n) = .incomplete) {r : ExchangeResult}
    (h : linkResult f.op f.unit (assemble (f.received ++ bytes)) = some r) :
    Yields (.linkAnswerFrame port bytes) s (exchangeEnded port e f r s.toPart) := by
  have hy : Yields (.linkAnswerFrame port bytes) s (linkBytes port bytes s.toPart) := rfl
  rwa [linkBytes_minimal he hf hk hmin, linkPiece_result he hf hk h] at hy

/-- The answer to the exchange of a PROBE verb, with whatever follows it. -/
theorem yields_probeVerbAnswer (he : entryOf s.toPart port = some e) (hf : e.op = some f) (hk : e.kind = .link) (hop : f.op = .probe)
    (hrq : f.requester = .probeVerb) {tag : Option Tag} (hv : s.sup.verbRun = some (.probe tag port f.unit))
    (hrep : s.con.replies = []) {r : ProbeResult} (h : LinkProbe f.unit (assemble (f.received ++ bytes)) r) :
    Yields (.linkAnswerFrame port bytes) s
      (slotGivenBack (answers (accepted 0 tag ([.num port.num, .num f.unit] ++ probeFields r))
        (setEntry port (portFreed e 0 f.unit (probedUnit r (e.units.getD f.unit freshUnit))) s.toPart))) := by
  obtain ⟨hresult, htimeout⟩ := linkResult_probe h
  rw [← hop] at hresult
  have hpiece : linkPiece port s.toPart bytes =
      slotGivenBack (answers (accepted 0 tag ([.num port.num, .num f.unit] ++ probeFields r))
        (setEntry port (portFreed e 0 f.unit (probedUnit r (e.units.getD f.unit freshUnit))) s.toPart)) := by
    rw [linkPiece_result he hf hk hresult, exchangeEnded_answer hop htimeout, hrq,
      deliver_probeVerb (by exact hv) (by exact hrep)]
  have hidle : LinkIdle port (linkPiece port s.toPart bytes) := by
    rw [hpiece]
    intro e' he'
    cases (entryOf_setEntry_self he).symm.trans he'
    exact .inl rfl
  have hy : Yields (.linkAnswerFrame port bytes) s (linkBytes port bytes s.toPart) := rfl
  rwa [linkBytes_ends he hf hk (linkResult_complete hresult) hidle, hpiece] at hy

end Answer

theorem linkSent_untimed {p : Part} {port : Port} {e : PortEntry} {f : InFlight} (he : entryOf p port = some e) (hf : e.op = some f)
    (hk : e.kind = .link) (ht : f.timer = none) :
    linkSent port p = setEntry port { e with op := some { f with timer := some e.kind.timeoutMs } } p := by
  simp only [linkSent, he, hf]
  exact if_pos ⟨hk, ht⟩

/-- Settles O30: the pieces of the bytes received, each judged for the request outstanding. -/
theorem linkAnswersEndAProbe : Obligations.LinkAnswersEndAProbe := by
  refine ⟨fun s port e f he hf hk => ⟨fun ht => ?_, fun bytes => ⟨fun hinc => ?_, ?_⟩⟩,
    fun s port first rest hne => ⟨?_, fun hidle => ?_⟩,
    fun s port e f u bytes he hf hk hu hmin =>
      ⟨fun r hop h => ?_, fun block retries made hop => ⟨fun r v h => ?_, fun h => ⟨fun hlt => ?_, fun hle => ?_⟩⟩⟩⟩
  · have h : Yields (.linkRequestSent port) s (linkSent port s.toPart) := rfl
    have hlimit : e.kind.timeoutMs = 3000 := by rw [hk]; rfl
    rw [linkSent_untimed he hf hk ht, hlimit] at h
    exact h
  · have h : Yields (.linkAnswerFrame port bytes) s (linkBytes port bytes s.toPart) := rfl
    rwa [linkBytes_incomplete he hf hinc, linkPiece_incomplete he hf hk hinc] at h
  · rintro tag u r fields done hop rfl hrq hv hrep rfl
    have hends : ∀ x, LinkProbe f.unit (assemble (f.received ++ bytes)) x → (∀ v, probedUnit x v = r) → probeFields x = fields →
        Yields (.linkAnswerFrame port bytes) s
          (slotGivenBack (answers (accepted 0 tag ([.num port.num, .num f.unit] ++ fields))
            (setEntry port { e with count := 0, state := .idle, op := none, units := e.units.set f.unit r } s.toPart))) := by
      intro x hx hr hfields
      have h := yields_probeVerbAnswer he hf hk hop hrq hv hrep hx
      rwa [hr, hfields] at h
    refine ⟨?_, fun x hx => ⟨?_, ?_, ?_⟩⟩
    · rintro hm rfl rfl
      exact hends .notReady (.inl ⟨hm, rfl⟩) (fun _ => rfl) rfl
    · rintro hc hs ht hl hv rfl rfl
      exact hends (.ready _) (.inr ⟨x, hx, .inl ⟨hc, hs, ht, hl, hv, rfl⟩⟩) (fun _ => rfl) rfl
    · rintro hc hs ht rfl rfl
      exact hends .absent (.inr ⟨x, hx, .inr (.inl ⟨hc, hs, ht, rfl⟩)⟩) (fun _ => rfl) rfl
    · rintro hbad rfl rfl
      exact hends .notReady (.inr ⟨x, hx, .inr (.inr ⟨hbad, rfl⟩)⟩) (fun _ => rfl) rfl
  · intro e f he hf hk hmin hcomplete p hy hfresh
    have hp : p = linkBytes port first s.toPart := by
      have h : Yields (.linkAnswerFrame port first) s (linkBytes port first s.toPart) := rfl
      cases hy.symm.trans h
      rfl
    subst hp
    have h := linkBytes_append (rest := rest) he hf hk hne hmin hcomplete hfresh
    change s.on _ = State.on _ _
    rw [on_eq, on_eq, h]
  · have h : Yields (.linkAnswerFrame port first) s (linkBytes port first s.toPart) := rfl
    rwa [linkBytes_idle hidle] at h
  · obtain ⟨hresult, htimeout⟩ := linkResult_probe h
    rw [← hop] at hresult
    have hy := yields_linkAnswer he hf hk hmin hresult
    rw [exchangeEnded_answer hop htimeout, getD_unit hu] at hy
    exact ⟨_, hy, probeDelivered_deliver r⟩
  · have hends : ∀ x, linkResult f.op f.unit (assemble (f.received ++ bytes)) = some x →
        readEnd x block retries (made + 1) 0 = some r → countAfter x e.count = 0 → unitAfterRead x u = v →
        YieldsSome (.linkAnswerFrame port bytes) s
          (readDelivered f.requester port f.unit r (setEntry port (portFreed e 0 f.unit v) s.toPart)) := by
      intro x hresult hx hcount hv
      have hy := yields_linkAnswer he hf hk hmin hresult
      rw [exchangeEnded_readEnds hop (by rw [hcount, hx]), hcount, getD_unit hu, hv, endedPort_idle (by omega)] at hy
      exact ⟨_, hy, readDelivered_deliver r⟩
    obtain ⟨x, hx, hc, hs, h⟩ := h
    have hframe : linkResult f.op f.unit (assemble (f.received ++ bytes)) = some (judgeFrame (.read block retries made) f.unit x) := by
      rw [hx, hop]
      rfl
    rw [judgeFrame_read hc hs] at hframe
    obtain ⟨ht, hl, hb, rfl, rfl⟩ | ⟨ht, rfl, rfl⟩ | ⟨ht, rfl, rfl⟩ := h
    · rw [if_pos ht, if_pos ⟨hl, hb⟩] at hframe
      exact hends _ hframe rfl rfl rfl
    · rw [if_neg (by omega), if_pos ht] at hframe
      exact hends _ hframe rfl rfl rfl
    · rw [if_neg (by omega), if_neg (by omega), if_pos ht] at hframe
      exact hends _ hframe rfl rfl rfl
  · have hresult := linkResult_failure (retries := retries) (made := made) h
    rw [← hop] at hresult
    have hlen : f.unit < e.units.length := (List.getElem?_eq_some_iff.mp hu).1
    have hy := yields_linkAnswer he hf hk hmin hresult
    rw [exchangeEnded_retry hop hlt hlen] at hy
    refine ⟨hy, fun later hne => ?_⟩
    have hp : linkBytes port bytes s.toPart =
        setEntry port (reading { e with count := 0 } f.unit block retries (made + 1) f.requester) s.toPart := by
      rw [linkBytes_minimal he hf hk hmin, linkPiece_result he hf hk hresult, exchangeEnded_retry hop hlt hlen]
    have h := linkBytes_append (rest := later) he hf hk hne hmin (linkResult_complete hresult) (by
      intro e' f' he' hf'
      rw [hp] at he'
      cases (entryOf_setEntry_self he).symm.trans he'
      cases hf'
      rfl)
    change s.on _ = State.on _ _
    rw [on_eq, on_eq, h, hp]
  · have hresult := linkResult_failure (retries := retries) (made := made) h
    rw [← hop] at hresult
    have hy := yields_linkAnswer he hf hk hmin hresult
    rw [exchangeEnded_failed hop hle hu] at hy
    exact ⟨_, hy, readDelivered_deliver _⟩

end Sys2Proof.Proofs

/-! PROOFS. The course of a check (Target Memory Check): the transactions of the word set in order, the ends of regions and passes, the
verb CHECK, and the check that the end of INIT begins. -/

namespace Sys2Proof.Proofs
open Sys2Proof Sys2Proof.Machine

/-! ### Words and their transactions (R82 to R84) -/

theorem checkTxn_eq {r : CheckRun} (h : r.effective = .read → r.phase = 0) : checkTxn r = checkWord r.phase r.cursor := by
  by_cases hr : r.effective = .read
  · simp [checkTxn, checkWord, hr, h hr]
  · by_cases h1 : r.phase = 1
    · simp [checkTxn, checkWord, patternWord, h1]
    · by_cases h3 : r.phase = 3
      · simp [checkTxn, checkWord, patternWord, h3]
      · simp [checkTxn, checkWord, h1, h3]

/-- The next word of a region's word set (R82): the least of those after the current one. -/
theorem nextWord_least {k : CheckKind} {g : Region} {a : Nat} (hb : g.base % 0x1000 = 0) (hs : g.size % 0x1000 = 0)
    (ha : inWordSet k g a) :
    (nextWord k g a = none ∧ ∀ b, inWordSet k g b → b ≤ a) ∨
      ∃ n, nextWord k g a = some n ∧ inWordSet k g n ∧ a < n ∧ ∀ b, inWordSet k g b → a < b → n ≤ b := by
  obtain ⟨ha4, hlo, hhi, -⟩ := ha
  by_cases hend : g.base + g.size ≤ a + 4
  · refine .inl ⟨if_pos hend, ?_⟩
    rintro b ⟨hb4, -, hbhi, -⟩
    omega
  · have hstep : k ≠ .quick ∨ a + 4 < g.base + 0x1000 ∨ g.base + g.size - 0x1000 ≤ a + 4 ∨ (a + 4) % 0x1000 = 0 →
        ∃ n, some (a + 4) = some n ∧ inWordSet k g n ∧ a < n ∧ ∀ b, inWordSet k g b → a < b → n ≤ b := by
      refine fun hin => ⟨a + 4, rfl, ⟨by omega, by omega, by omega, fun hk => ?_⟩, by omega, ?_⟩
      · exact hin.resolve_left (absurd hk)
      · rintro b ⟨hb4, -⟩ hab
        omega
    right
    cases k with
    | walk =>
      have hn : nextWord .walk g a = some (a + 4) := if_neg hend
      rw [hn]
      exact hstep (.inl nofun)
    | read =>
      have hn : nextWord .read g a = some (a + 4) := if_neg hend
      rw [hn]
      exact hstep (.inl nofun)
    | quick =>
      by_cases hin : a + 4 < g.base + 0x1000 ∨ g.base + g.size - 0x1000 ≤ a + 4 ∨ (a + 4) % 0x1000 = 0
      · have hn : nextWord .quick g a = some (a + 4) := (if_neg hend).trans (if_pos hin)
        rw [hn]
        exact hstep (.inr hin)
      · have hn : nextWord .quick g a = some (((a + 4) / 0x1000 + 1) * 0x1000) := (if_neg hend).trans (if_neg hin)
        rw [hn]
        refine ⟨_, rfl, ⟨by omega, by omega, by omega, fun _ => .inr (.inr (by omega))⟩, by omega, ?_⟩
        rintro b ⟨hb4, -, -, hbin⟩ hab
        have := hbin rfl
        omega

/-- The run of a check in progress is looked at by none of its steps: it is given to them. -/
theorem issueCheck_run (r : CheckRun) (x : Option CheckRun) (p : Part) :
    issueCheck r { p with mck := { p.mck with run := x } } = issueCheck r p := by
  unfold issueCheck
  split
  · rfl
  · dsimp only
    split
    · rfl
    · unfold discardForCheck
      dsimp only
      split <;> rfl

theorem beginRegion_run (i : Idx) (r : CheckRun) (x : Option CheckRun) (p : Part) :
    beginRegion i r { p with mck := { p.mck with run := x } } = beginRegion i r p := by
  unfold beginRegion
  dsimp only
  split
  · rfl
  · exact issueCheck_run _ x p

theorem requestTxn_setCheck {kind : TxnKind} {a : Nat} {p : Part} (h : judgeTxn kind a p = none) (r : CheckRun) :
    (requestTxn kind a .checker (setCheck r p)).1 = { inFlight kind a .checker p with mck := { p.mck with run := some r } } := by
  rw [requestTxn_taken ((judgeTxn_congr (by rfl) (by rfl) kind a).trans h)]
  rfl

/-- The part with the loaded image discarded, as before a run's first WRITE (R92). -/
theorem discardForCheck_eq (p : Part) :
    discardForCheck p =
      if p.ldr.image = .partly ∨ p.ldr.image = .staged then { p with ldr := { p.ldr with image := .nothing, plan := none } } else p := by
  unfold discardForCheck
  split <;> simp_all

/-- The transaction of the current word, for a run that need not discard the image. -/
theorem issueCheck_taken {r : CheckRun} {p : Part} (hphase : r.effective = .read → r.phase = 0)
    (hw : r.effective ≠ .read → r.written = true) (h : judgeTxn (checkWord r.phase r.cursor) r.cursor p = none) :
    issueCheck r p = checks r p := by
  rw [← checkTxn_eq hphase] at h
  unfold checks
  rw [← checkTxn_eq hphase]
  unfold issueCheck
  split
  · rename_i hk
    rw [hk] at h ⊢
    exact requestTxn_setCheck h r
  · rename_i w hk
    have hwritten : r.written = true := by
      refine hw fun hr => ?_
      rw [checkTxn, hr] at hk
      cases hk
    rw [hk] at h ⊢
    rw [if_pos hwritten]
    have hr : { r with written := true } = r := by
      cases r
      cases hwritten
      rfl
    rw [hr]
    exact requestTxn_setCheck h r

/-- The check of a region begins with the transaction of its first word. -/
theorem regionBegins_beginRegion (i : Idx) (r : CheckRun) (p : Part) : regionBegins i r p (beginRegion i r p) := by
  intro g hg hj
  rw [beginRegion, hg]
  dsimp only
  constructor
  · intro hread
    have hk : effectiveKind r.asked g = .read := by
      unfold effectiveKind
      split
      · rfl
      · exact hread.resolve_left ‹_›
    rw [if_pos hread] at hj
    rw [hk, if_pos rfl]
    exact issueCheck_taken (fun _ => rfl) (fun h => absurd rfl h) hj
  · intro hp hr
    have hk : effectiveKind r.asked g = r.asked := by
      unfold effectiveKind
      rw [hp]
      rfl
    rw [if_neg (by simp [hp, hr])] at hj
    rw [hk, if_neg hr]
    have hwrite : checkTxn { r with current := i, effective := r.asked, phase := 1, cursor := g.base, firstRead := none } =
        .write (BitVec.ofNat 32 g.base) := checkTxn_eq (fun h => absurd h hr)
    unfold issueCheck
    rw [hwrite]
    dsimp only
    have hdiscard : (if r.written = true then p else discardForCheck p) =
        if r.written = false ∧ (p.ldr.image = .partly ∨ p.ldr.image = .staged) then
          { p with ldr := { p.ldr with image := .nothing, plan := none } } else p := by
      rw [discardForCheck_eq]
      cases r.written <;> simp
    rw [hdiscard]
    refine requestTxn_setCheck ((judgeTxn_congr ?_ ?_ _ _).trans hj) _
    · split <;> rfl
    · split <;> rfl

/-! ### Ends of regions, passes and runs (R89, R91, R94) -/

theorem checkEnds_endCheck {r r' : CheckRun} {p : Part} (hrun : p.mck.run = some r') (ho : r'.origin = r.origin)
    (hm : r'.marks = r.marks) (q : Part) (hq : p = { q with mck := { q.mck with run := some r' } }) : checkEnds r q (endCheck p) := by
  rintro ended rfl
  rw [endCheck, hrun]
  dsimp only
  rw [ho, hm]
  subst hq
  refine ⟨fun hv => ?_, fun ha => ⟨fun hmarks hf => ?_, fun h => ?_⟩⟩
  · rw [hv]
    rfl
  · rw [ha]
    exact if_pos ⟨hmarks, hf⟩
  · rw [ha]
    refine if_neg ?_
    rintro ⟨hmarks, hf⟩
    obtain h | h := h
    · exact hmarks h
    · cases h.symm.trans hf

/-- The end of a pass, for the run as it was before its last word. -/
theorem passEnds_endPass (r : CheckRun) (p : Part) :
    passEnds r p (followCheck (endPass { r with firstRead := none } p)) := by
  rintro total noted rfl rfl
  unfold endPass
  dsimp only
  refine ⟨fun hne hlast => ?_, fun hmore i rest hi => ?_⟩
  · rw [if_pos ⟨hne, hlast⟩]
    exact checkEnds_endCheck rfl rfl rfl _ rfl
  · have hno : ¬ (r.passes ≠ 0 ∧ r.pass = r.passes) := fun h => hmore.elim h.1 (absurd h.2)
    have hpass : min 0xFFFF (r.pass + 1) = if r.pass < 0xFFFF then r.pass + 1 else 0xFFFF := by
      split <;> omega
    rw [if_neg hno, beginPass, hi, followCheck]
    dsimp only
    rw [hpass]
    have hrun := beginRegion_run i { r with firstRead := none, pass := if r.pass < 0xFFFF then r.pass + 1 else 0xFFFF }
      (some { r with firstRead := none }) (raise 501 r.tag [.num r.pass, .num (defectTotal p.mck)] p)
    have hbegins := regionBegins_beginRegion i { r with firstRead := none, pass := if r.pass < 0xFFFF then r.pass + 1 else 0xFFFF }
      (raise 501 r.tag [.num r.pass, .num (defectTotal p.mck)] p)
    rw [← hrun, hi] at hbegins
    exact hbegins

theorem nextRegion_eq {r : CheckRun} {past rest : List Idx} (h : r.regions = past ++ r.current :: rest) (hp : r.current ∉ past) :
    nextRegion r = rest.head? := by
  have hdrop : (r.regions.dropWhile (· ≠ r.current)) = r.current :: rest := by
    rw [h, List.dropWhile_append_of_pos]
    · simp
    · intro x hx
      simpa using fun he : x = r.current => hp (he ▸ hx)
  rw [nextRegion, hdrop]
  rfl

/-- What follows a judged word. -/
theorem checkGoesOn_advanceCheck (r : CheckRun) (p : Part) : checkGoesOn r p (followCheck (advanceCheck r p)) := by
  intro g hg hb hs hin hread hother
  have hw : r.effective ≠ .read → r.written = true := fun h => (hother h).2.2
  have hnext := nextWord_least hb hs hin
  simp only [advanceCheck, hg]
  refine ⟨fun a ha hlt hleast hj => ?_, fun hlast => ?_⟩
  · obtain ⟨-, hno⟩ | ⟨n, hn, hnin, hnlt, hnleast⟩ := hnext
    · exact absurd (hno a ha) (by omega)
    · have han : n = a := Nat.le_antisymm (hnleast a ha hlt) (hleast n hnin hnlt)
      subst han
      rw [hn]
      exact issueCheck_taken (r := { r with cursor := n, firstRead := none }) hread hw hj
  · obtain ⟨hn, -⟩ | ⟨n, -, hnin, hnlt, -⟩ := hnext
    · rw [hn]
      dsimp only
      refine ⟨fun hne hphase hj => ?_, ?_⟩
      · rw [if_pos ⟨hne, hphase⟩]
        exact issueCheck_taken (r := { r with phase := r.phase + 1, cursor := g.base, firstRead := none }) (fun h => absurd h hne) hw hj
      · rintro hdone ended rfl past rest hregions hpast
        have hlastPhase : ¬ (r.effective ≠ .read ∧ r.phase < 4) := fun h => hdone.elim h.1 (Nat.not_le.mpr h.2)
        rw [if_neg hlastPhase, nextRegion_eq (r := { r with firstRead := none }) hregions hpast]
        constructor
        · rintro i later rfl
          exact regionBegins_beginRegion i { r with firstRead := none } _
        · rintro rfl
          exact passEnds_endPass r _
    · exact absurd (hlast n hnin) (by omega)

end Sys2Proof.Proofs

/-! PROOFS. CHECK, the outcomes of a check's transactions, and the end of INIT (Target Memory Check; The Start-up Supervisor). -/

namespace Sys2Proof.Proofs
open Sys2Proof Sys2Proof.Machine

-- One proof after another: all of them at once would take a thread and its stack each.
set_option Elab.async false

/-! ### The first word of a region (R66, R75, R82) -/

theorem region_pages {m : Eight (Option Region)} {i : Idx} {g : Region} (hm : mapSound m = true) (hg : m.get i = some g) :
    g.base % 0x1000 = 0 ∧ 0x1000 ≤ g.size := by
  have hs := (mapSound_iff.mp hm i g hg).1
  simp only [Region.sound, Bool.and_eq_true] at hs
  obtain ⟨⟨⟨⟨hbase, -⟩, hsize⟩, -⟩, -⟩ := hs
  exact ⟨of_decide_eq_true hbase, of_decide_eq_true hsize⟩

/-- In a sound map the base of a region lies in that region and in no other. -/
theorem regionAt_base {m : Eight (Option Region)} {i : Idx} {g : Region} (hm : mapSound m = true) (hg : m.get i = some g) :
    regionAt m g.base = some i := by
  have ho := (mapSound_iff.mp hm i g hg).2
  have hsize := (region_pages hm hg).2
  have hholds : g.holds g.base = true := by
    simp only [Region.holds, Bool.and_eq_true, decide_eq_true_eq]
    omega
  obtain ⟨j, hj⟩ := Option.ne_none_iff_exists'.mp (mt regionAt_eq_none_iff.mp (not_not_intro ⟨i, g, hg, hholds⟩))
  rw [hj]
  have hjholds := List.find?_some hj
  by_cases hij : j = i
  · rw [hij]
  · cases hx : m.get j with
    | none => simp [hx] at hjholds
    | some x => exact absurd (overlapsOther_of_holds hij hx hholds (by simpa [hx] using hjholds)) ho

theorem base_aligned {m : Eight (Option Region)} {i : Idx} {g : Region} (hm : mapSound m = true) (hg : m.get i = some g) :
    g.base % 4 = 0 := by
  have hbase := (region_pages hm hg).1
  omega

/-- The port takes the first transaction of a region's check. -/
theorem judgeTxn_firstWord {p : Part} {i : Idx} {g : Region} (hm : mapSound p.sst.settings.map = true)
    (hg : p.sst.settings.map.get i = some g) (ht : p.rlu.treset = .asserted) (asked : CheckKind) :
    judgeTxn (checkWord (if g.preserve ∨ asked = .read then 0 else 1) g.base) g.base p = none := by
  have hat := regionAt_base hm hg
  by_cases h : g.preserve = true ∨ asked = .read
  · rw [if_pos h]
    refine judgeTxn_read ht (base_aligned hm hg) ?_
    refine Classical.byContradiction fun hno => ?_
    rw [regionAt_eq_none_iff.mpr hno] at hat
    cases hat
  · rw [if_neg h]
    have hp : ¬ g.preserve = true := fun hx => h (.inl hx)
    exact (judgeTxn_write _ ht (base_aligned hm hg) hat hg).trans (if_neg hp)

/-! ### CHECK (R86, R87) -/

theorem checkScope?_eq_some_iff {r : Arg} {scope : CheckScope} :
    checkScope? r = some scope ↔ (r = .word "ALL".toList ∧ scope = .all) ∨ ∃ n, r = .num n ∧ scope = .index n := by
  cases r with
  | num n => simp [checkScope?, eq_comm]
  | word w => simp [checkScope?, eq_comm]

/-- The argument places of CHECK, as its form gives them. -/
theorem checkArgs?_eq_some_iff {as : List Arg} {kind : CheckKind} {scope : CheckScope} {n : Nat} {stop : Bool} :
    checkArgs? as = some ⟨kind, scope, n, stop⟩ ↔ checkForm as kind scope n stop := by
  constructor
  · intro h
    unfold checkArgs? at h
    split at h
    · obtain ⟨k, hk, he⟩ := Option.map_eq_some_iff.mp h
      cases he
      exact ⟨_, hk, .inl ⟨rfl, rfl, rfl, rfl⟩⟩
    · split at h
      · rename_i hk hs
        cases h
        exact ⟨_, hk, .inr ⟨_, checkScope?_eq_some_iff.mp hs, .inl ⟨rfl, rfl, rfl⟩⟩⟩
      · cases h
    · split at h
      · rename_i hk hs
        cases h
        exact ⟨_, hk, .inr ⟨_, checkScope?_eq_some_iff.mp hs, .inr (.inl ⟨rfl, rfl⟩)⟩⟩
      · cases h
    · split at h
      · rename_i hk hs
        split at h
        · rename_i hw
          subst hw
          cases h
          exact ⟨_, hk, .inr ⟨_, checkScope?_eq_some_iff.mp hs, .inr (.inr ⟨rfl, rfl⟩)⟩⟩
        · cases h
      · cases h
    · cases h
  · rintro ⟨k, hk, ⟨rfl, rfl, rfl, rfl⟩ | ⟨r, hr, h⟩⟩
    · simp [checkArgs?, hk]
    · rw [← checkScope?_eq_some_iff] at hr
      obtain ⟨rfl, rfl, rfl⟩ | ⟨rfl, rfl⟩ | ⟨rfl, rfl⟩ := h <;> simp only [checkArgs?, hk, hr, if_true]

theorem checkVerb_form {as : List Arg} (h : ∀ kind scope n stop, ¬ checkForm as kind scope n stop) (tag : Option Tag) (p : Part) :
    checkVerb tag as p = refuse 111 tag p := by
  have hnone : checkArgs? as = none := by
    rw [Option.eq_none_iff_forall_ne_some]
    rintro ⟨kind, scope, n, stop⟩ hc
    exact h kind scope n stop (checkArgs?_eq_some_iff.mp hc)
  rw [checkVerb, hnone]

section Check

variable {as : List Arg} {kind : CheckKind} {scope : CheckScope} {n : Nat} {stop : Bool}

theorem checkVerb_range (hc : checkForm as kind scope n stop) (h : (∃ i, scope = .index i ∧ (i < 1 ∨ 8 < i)) ∨ 0xFF < n)
    (tag : Option Tag) (p : Part) : checkVerb tag as p = refuse 112 tag p := by
  rw [checkVerb, checkArgs?_eq_some_iff.mpr hc]
  dsimp only
  cases hl : checkList p.sst.settings.map scope with
  | none => rfl
  | some regions =>
    refine if_pos (h.resolve_left ?_)
    rintro ⟨i, rfl, hi⟩
    rw [checkList, idxOfNat?_eq_none_iff.mpr hi] at hl
    cases hl

/-- A CHECK whose places are in range, with the region list that they name. -/
theorem checkVerb_regions (hc : checkForm as kind scope n stop) {p : Part} {regions : List Idx}
    (hr : checkList p.sst.settings.map scope = some regions) (hn : n ≤ 0xFF) (tag : Option Tag) :
    checkVerb tag as p =
      if regions = [] then refuse 122 tag p
      else if slotHeld p then refuse 121 tag p
      else beginCheck .verb tag kind regions n stop [scope.field, .num n] (replyOk tag (takeSlot .check tag none p)) := by
  rw [checkVerb, checkArgs?_eq_some_iff.mpr hc]
  dsimp only
  rw [hr]
  exact if_neg (by omega)

end Check

/-- The region list that a CHECK names (R86). -/
theorem checkList_eq {m : Eight (Option Region)} {scope : CheckScope} {regions : List Idx}
    (h : (scope = .all ∧ regions = Idx.all.filter fun i => (m.get i).isSome) ∨
      (∃ k i, scope = .index k ∧ Idx.ofNat? k = some i ∧ regions = if (m.get i).isSome then [i] else [])) :
    checkList m scope = some regions := by
  obtain ⟨rfl, rfl⟩ | ⟨k, i, rfl, hk, rfl⟩ := h
  · rfl
  · rw [checkList, hk]
    rfl

/-- A check run that begins with a region of the map. -/
theorem beginCheck_begins (origin : CheckOrigin) (tag : Option Tag) (asked : CheckKind) (i : Idx) (rest : List Idx) (passes : Nat)
    (stop : Bool) (scope : List Field) (p : Part) :
    beginCheck origin tag asked (i :: rest) passes stop scope p =
      beginRegion i
        { origin := origin, tag := tag, asked := asked, regions := i :: rest, passes := passes, stop := stop, pass := 1, current := i,
          effective := asked, phase := 0, cursor := 0, written := false, marks := [], firstRead := none }
        { raise 500 tag (.word asked.name :: scope) p with mck := { run := none, defects := [], dropped := 0 } } :=
  (beginRegion_run i _ _ _).symm

/-- Settles O36: the order of the refusals, and the first transaction, which the memory port takes. -/
theorem checkBeginsWithItsFirstWord : Obligations.CheckBeginsWithItsFirstWord := by
  intro tag args as s ha ht ⟨b, hm⟩
  have hy : Yields (.check tag args) s (checkVerb tag as s.toPart) := yields_owner (v := .check) rfl ha ht (hm ▸ rfl)
  refine ⟨fun hf => ?_, fun kind scope n stop hform => ⟨fun hrange => ?_, fun regions hregions hn => ?_⟩⟩
  · rwa [checkVerb_form hf, refuse_quiet ht.1] at hy
  · rwa [checkVerb_range hform hrange, refuse_quiet ht.1] at hy
  · rw [checkVerb_regions hform (checkList_eq hregions) hn] at hy
    refine ⟨fun hnil => ?_, fun hne hs => ?_, fun i rest g effective hcons hs hg hsound htreset heff => ?_⟩
    · rwa [if_pos hnil, refuse_quiet ht.1] at hy
    · rwa [if_neg hne, if_pos (slotHeld_of_ne hs), refuse_quiet ht.1] at hy
    · subst hcons
      rw [if_neg (by simp), if_neg (by simp [not_slotHeld hs]), replyOk_quiet (by exact ht.1), beginCheck_begins] at hy
      refine ⟨_, hy, ?_⟩
      have hfirst := regionBegins_beginRegion i
        { origin := .verb, tag := tag, asked := kind, regions := i :: rest, passes := n, stop := stop, pass := 1, current := i,
          effective := kind, phase := 0, cursor := 0, written := false, marks := [], firstRead := none }
        { raise 500 tag [.word kind.name, scope.field, .num n] (answersOk tag (takeSlot .check tag none s.toPart)) with
          mck := { run := none, defects := [], dropped := 0 } } g hg (judgeTxn_firstWord hsound hg htreset kind)
      by_cases hread : g.preserve = true ∨ kind = .read
      · have heff : effective = .read := by
          rw [heff]
          split
          · rfl
          · exact hread.resolve_left ‹_›
        subst heff
        rw [hfirst.1 hread]
        exact ⟨rfl, rfl, rfl, rfl, rfl, rfl, rfl, rfl, rfl, rfl⟩
      · obtain ⟨hp, hk⟩ : g.preserve = false ∧ kind ≠ .read := by simpa using hread
        have heff : effective = kind := by
          rw [heff, hp]
          rfl
        subst heff
        have hphase : (if effective = CheckKind.read then 0 else 1) = 1 := if_neg hk
        have hwritten : decide (effective ≠ CheckKind.read) = true := decide_eq_true hk
        rw [hfirst.2 hp hk, hphase, hwritten, if_neg hk]
        by_cases himage : s.ldr.image = .partly ∨ s.ldr.image = .staged
        · rw [if_pos (And.intro rfl (by exact himage)), if_pos (And.intro hk himage)]
          exact ⟨rfl, rfl, rfl, rfl, rfl, rfl, rfl, rfl, rfl, rfl⟩
        · rw [if_neg (fun h => himage h.2), if_neg (fun h => himage h.2)]
          exact ⟨rfl, rfl, rfl, rfl, rfl, rfl, rfl, rfl, rfl, rfl⟩

/-! ### The judgement of an outcome (R83, R84, R90) -/

section Judge

variable {r : CheckRun} {w : Word32}

/-- What a defect, or none, is as a finding. -/
def findingOf : Option Defect → Finding
  | none => .good
  | some d => .defect d

theorem judgeCheck_second {x : Word32} (he : r.effective = .read) (hx : r.firstRead = some x) :
    judgeCheck r (.done w) = findingOf (if w = x then none else some ⟨r.cursor, .unstable, none, some w, r.pass⟩) := by
  simp only [judgeCheck, he, hx]
  split <;> rfl

theorem judgeCheck_first (he : r.effective = .read) (hx : r.firstRead = none) : judgeCheck r (.done w) = .firstRead w := by
  simp only [judgeCheck, he, hx]

theorem judgeCheck_pattern (he : r.effective ≠ .read) :
    judgeCheck r (.done w) =
      findingOf (if r.phase = 1 ∨ r.phase = 3 ∨ w = patternWord r.phase r.cursor then none
        else some ⟨r.cursor, .mismatch, some (patternWord r.phase r.cursor), some w, r.pass⟩) := by
  have hjudge : judgeCheck r (.done w) =
      if r.phase = 1 ∨ r.phase = 3 ∨ w = patternWord r.phase r.cursor then .good
      else .defect ⟨r.cursor, .mismatch, some (patternWord r.phase r.cursor), some w, r.pass⟩ := by
    cases hk : r.effective
    · simp only [judgeCheck, hk]
    · simp only [judgeCheck, hk]
    · exact absurd hk he
  rw [hjudge]
  split <;> rfl

theorem judgeCheck_write (he : r.effective ≠ .read) (hp : r.phase = 1 ∨ r.phase = 3) : judgeCheck r (.done w) = findingOf none := by
  rw [judgeCheck_pattern he, if_pos (hp.imp_right .inl)]

theorem judgeCheck_compare {x : Word32} (he : r.effective ≠ .read)
    (hp : (r.phase = 2 ∧ x = BitVec.ofNat 32 r.cursor) ∨ (r.phase = 4 ∧ x = ~~~BitVec.ofNat 32 r.cursor)) :
    judgeCheck r (.done w) = findingOf (if w = x then none else some ⟨r.cursor, .mismatch, some x, some w, r.pass⟩) := by
  have hx : patternWord r.phase r.cursor = x := by
    obtain ⟨h2, rfl⟩ | ⟨h4, rfl⟩ := hp
    · rw [h2]
      rfl
    · rw [h4]
      rfl
  rw [judgeCheck_pattern he, hx]
  have hodd : ¬ (r.phase = 1 ∨ r.phase = 3) := by omega
  by_cases hw : w = x
  · rw [if_pos (.inr (.inr hw)), if_pos hw]
  · rw [if_neg (fun h => h.elim (hodd ∘ .inl) fun h => h.elim (hodd ∘ .inr) hw), if_neg hw]

end Judge

/-- What the end of the transaction in flight shows of a run's current word. -/
def EndShows (c : Instr) (t : Transaction) (r : CheckRun) (f : Finding) : Prop :=
  ∀ s : State, s.mmp.txn = some t → ∃ o, Yields c s (txnEnded t o s.toPart) ∧ judgeCheck r o = f

theorem endShows_noResponse (t : Transaction) (r : CheckRun) :
    EndShows .responseTimeout t r (.defect ⟨r.cursor, .noResponse, none, none, r.pass⟩) :=
  fun _ h => ⟨_, yields_noResponse h, rfl⟩

theorem endShows_busError (mrdy : Bool) (w : Word32) (t : Transaction) (r : CheckRun) :
    EndShows (.memoryResponse mrdy true w) t r (.defect ⟨r.cursor, .busError, none, none, r.pass⟩) :=
  fun _ h => ⟨_, yields_busError h mrdy w, rfl⟩

theorem endShows_read {a : Nat} {rq : TxnRequester} {r : CheckRun} {w : Word32} {f : Finding} (h : judgeCheck r (.done w) = f) :
    EndShows (.memoryResponse true false w) ⟨.read, a, rq⟩ r f :=
  fun _ ht => ⟨_, yields_done ht w, h⟩

theorem endShows_checkFinds {c : Instr} {r : CheckRun} {d : Option Defect} (hphase : r.effective = .read → r.phase = 0)
    (h : checkFinds r c d) (a : Nat) : EndShows c ⟨checkWord r.phase r.cursor, a, .checker⟩ r (findingOf d) := by
  obtain ⟨rfl, rfl⟩ | ⟨⟨mrdy, w, rfl⟩, rfl⟩ | ⟨w, rfl, h⟩ := h
  · exact endShows_noResponse _ r
  · exact endShows_busError mrdy w _ r
  · obtain ⟨he, x, hx, rfl⟩ | ⟨he, hp, rfl⟩ | ⟨he, x, hp, rfl⟩ := h
    · rw [hphase he]
      exact endShows_read (judgeCheck_second he hx)
    · exact fun s ht => ⟨_, yields_done ht w, judgeCheck_write he hp⟩
    · have hread : checkWord r.phase r.cursor = .read := by
        obtain ⟨h2, -⟩ | ⟨h4, -⟩ := hp
        · rw [h2]
          rfl
        · rw [h4]
          rfl
      rw [hread]
      exact endShows_read (judgeCheck_compare he hp)

/-- The check goes on after a word that is good, or bad without STOP. -/
theorem checkOutcome_goesOn {o : TxnOutcome} {r : CheckRun} {d : Option Defect} (h : judgeCheck r o = findingOf d)
    (hd : d = none ∨ r.stop = false) (p : Part) :
    checkOutcome o r p = advanceCheck (marked d r) { p with mck := defectKept d p.mck } := by
  rw [checkOutcome, h]
  cases d with
  | none => rfl
  | some d =>
    have hstop : r.stop = false := hd.resolve_left nofun
    exact if_neg (by simp [markRegion, hstop])

theorem checkOutcome_stops {o : TxnOutcome} {r : CheckRun} {d : Defect} (h : judgeCheck r o = .defect d) (hstop : r.stop = true)
    (p : Part) :
    checkOutcome o r p =
      (raise 502 r.tag [.num r.pass, .num (defectTotal (defectKept (some d) p.mck)), .word "STOP"]
        { p with
          mck := { defectKept (some d) p.mck with run := some (markRegion r) }
          mmp := { p.mmp with health := p.mmp.health.set r.current .defective } }, .stopped) := by
  rw [checkOutcome, h]
  exact if_pos hstop

theorem txnEnded_checker {s : State} {r : CheckRun} {kind : TxnKind} {a : Nat} (hr : s.mck.run = some r)
    (hab : s.sup.abortPending = false) (o : TxnOutcome) :
    txnEnded ⟨kind, a, .checker⟩ o s.toPart = followCheck (checkOutcome o r (endTxn s.toPart)) := by
  have hrun : (endTxn s.toPart).mck.run = some r := hr
  simp only [txnEnded, checkerOutcome, hrun]
  exact if_neg (by simp [endTxn, hab])

theorem endCheck_verb {r : CheckRun} {p : Part} (hrun : p.mck.run = some r) (ho : r.origin = .verb) :
    endCheck p = slotGivenBack { p with mck := { p.mck with run := none } } := by
  simp only [endCheck, hrun, ho]
  rfl

/-- Settles O37: the finding of the transaction's end, and the course of the check after it. -/
theorem stopEndsACheckAtItsDefect : Obligations.StopEndsACheckAtItsDefect := by
  refine ⟨fun s r kind c d hr hstop horigin hab ht hc m hm => ?_, fun s r c hr hab ht hphase => ⟨?_, fun d hc hd => ?_⟩⟩
  · have hends : EndShows c ⟨kind, r.cursor, .checker⟩ r (.defect d) := by
      obtain ⟨rfl, rfl⟩ | ⟨⟨mrdy, w, rfl⟩, rfl⟩ | ⟨w, x, rfl, rfl, he, hx, hne, rfl⟩ | ⟨w, x, rfl, rfl, he, hp, hne, rfl⟩ := hc
      · exact endShows_noResponse _ r
      · exact endShows_busError mrdy w _ r
      · exact endShows_read ((judgeCheck_second he hx).trans (by rw [if_neg hne]; rfl))
      · exact endShows_read ((judgeCheck_compare he hp).trans (by rw [if_neg hne]; rfl))
    obtain ⟨o, hy, ho⟩ := hends s ht
    rw [txnEnded_checker hr hab, checkOutcome_stops ho hstop, followCheck] at hy
    dsimp only at hy
    rw [endCheck_verb (r := markRegion r) (by rfl) horigin] at hy
    have hkept : m = { defectKept (some d) s.mck with run := none } := by
      rw [hm, defectKept]
      split <;> rfl
    subst hkept
    exact hy
  · rintro w rfl he hf hj
    have hread : checkWord r.phase r.cursor = .read := by
      rw [hphase he]
      rfl
    rw [hread] at ht
    have hy := yields_done ht w
    rw [txnEnded_checker hr hab, checkOutcome, judgeCheck_first he hf] at hy
    dsimp only at hy
    rwa [followCheck, issueCheck_taken (by exact hphase) (by exact fun h => absurd he h)
      (by exact hread.symm ▸ (judgeTxn_congr rfl rfl _ _).trans hj)] at hy
  · obtain ⟨o, hy, ho⟩ := endShows_checkFinds hphase hc _ s ht
    rw [txnEnded_checker hr hab, checkOutcome_goesOn ho hd] at hy
    exact ⟨_, hy, checkGoesOn_advanceCheck _ _⟩

end Sys2Proof.Proofs

/-! PROOFS. The end of INIT and the settling of the settings (The Start-up Supervisor; Settings Store). -/

namespace Sys2Proof.Proofs
open Sys2Proof Sys2Proof.Machine

-- One proof after another: all of them at once would take a thread and its stack each.
set_option Elab.async false

/-! ### The automatic check (R88, R140) -/

theorem mem_idx_all (i : Idx) : i ∈ Idx.all := by
  cases i <;> decide

theorem mem_checkRegions {m : Eight (Option Region)} {i : Idx} : i ∈ checkRegions m ↔ ∃ g, m.get i = some g ∧ g.check = true := by
  simp only [checkRegions, List.mem_filter, mem_idx_all, true_and]
  cases m.get i <;> simp

theorem checkRegions_eq_nil_iff {m : Eight (Option Region)} :
    checkRegions m = [] ↔ ∀ i g, m.get i = some g → g.check = false := by
  rw [List.eq_nil_iff_forall_not_mem]
  simp only [mem_checkRegions, not_exists, not_and, Bool.not_eq_true]

theorem autoCheck_kind (a : AutoCheck) : a.kind = if a = .walk then CheckKind.walk else CheckKind.quick := by
  cases a <;> rfl

section Mode

variable {p : Part}

theorem chooseMode_idle (h : p.sup.breakFlag = true ∨ p.sst.settings.autostart = false) : chooseMode p = slotGivenBack p := by
  rw [chooseMode]
  exact if_pos h

theorem chooseMode_search (hb : p.sup.breakFlag = false) (ha : p.sst.settings.autostart = true)
    (h : p.sst.settings.autocheck = .nothing ∨ ∀ i g, p.sst.settings.map.get i = some g → g.check = false) :
    chooseMode p = beginRun .start none p := by
  rw [chooseMode]
  dsimp only
  rw [if_neg (by simp [hb, ha]), if_neg]
  rintro ⟨hc, hr⟩
  exact h.elim hc fun h => hr (checkRegions_eq_nil_iff.mpr h)

/-- The part after notice 800 and notice 500, as the automatic check finds it. -/
def autoChecking (kind : CheckKind) (p : Part) : Part :=
  { raise 500 none [.word kind.name, .word "AUTO", .num 1] p with
    mck := { run := none, defects := [], dropped := 0 }
    sup := { p.sup with mode := .auto .check, slot := some .automaticCheck } }

/-- The automatic check's run as it begins. -/
def autoRun (kind : CheckKind) (i : Idx) (rest : List Idx) : CheckRun :=
  { origin := .auto, tag := none, asked := kind, regions := i :: rest, passes := 1, stop := false, pass := 1, current := i,
    effective := kind, phase := 0, cursor := 0, written := false, marks := [], firstRead := none }

theorem chooseMode_check (hb : p.sup.breakFlag = false) (ha : p.sst.settings.autostart = true) (hc : p.sst.settings.autocheck ≠ .nothing)
    {i : Idx} {rest : List Idx} (hr : checkRegions p.sst.settings.map = i :: rest) :
    chooseMode p =
      beginRegion i (autoRun p.sst.settings.autocheck.kind i rest) (autoChecking p.sst.settings.autocheck.kind p) := by
  rw [chooseMode]
  dsimp only
  rw [if_neg (by simp [hb, ha]), if_pos (by simp [hc, hr]), hr, beginCheck_begins]
  rfl

end Mode

/-- The end of INIT in the mode that R140 chooses. -/
theorem initEnds_endInit (p : Part) : initEnds p (endInit p) := by
  rintro started rfl
  refine ⟨fun h => chooseMode_idle (by exact h), fun hb ha => ⟨?_, fun h => chooseMode_search (by exact hb) (by exact ha) (by exact h)⟩⟩
  rintro kind i rest hc rfl hr
  rw [← autoCheck_kind, endInit, chooseMode_check (by exact hb) (by exact ha) (by exact hc) (by exact hr)]
  exact regionBegins_beginRegion i (autoRun _ i rest) (autoChecking _ _)

/-- The blocks that the first word of a check leaves alone, and the run that it leaves. -/
structure CheckSent (r : CheckRun) (p q : Part) : Prop where
  sup : q.sup = p.sup
  sre : q.sre = p.sre
  rlu : q.rlu = p.rlu
  sst : q.sst = p.sst
  spc : q.spc = p.spc
  tgt : q.tgt = p.tgt
  run : ∃ x, q.mck = { p.mck with run := some x } ∧ x.origin = r.origin ∧ x.tag = r.tag ∧ x.passes = r.passes ∧ x.pass = r.pass ∧
    x.stop = r.stop ∧ x.asked = r.asked ∧ x.regions = r.regions

theorem checkSent_requestTxn (kind : TxnKind) (a : Nat) {r : CheckRun} {p q : Part} (h : CheckSent r p q) :
    CheckSent r p (requestTxn kind a .checker q).1 := by
  obtain ⟨-, he⟩ | ⟨x, -, he⟩ := requestTxn_cases kind a .checker q
  · rw [he]
    exact { h with }
  · rwa [he]

theorem checkSent_setCheck (r : CheckRun) (p : Part) : CheckSent r p (setCheck r p) :=
  ⟨rfl, rfl, rfl, rfl, rfl, rfl, r, rfl, rfl, rfl, rfl, rfl, rfl, rfl, rfl⟩

theorem checkSent_issueCheck (r : CheckRun) (p : Part) : CheckSent r p (issueCheck r p) := by
  have hwritten : CheckSent r p (setCheck { r with written := true } p) := { checkSent_setCheck { r with written := true } p with }
  unfold issueCheck
  split
  · exact checkSent_requestTxn _ _ (checkSent_setCheck r p)
  · refine checkSent_requestTxn _ _ ?_
    split
    · exact hwritten
    · rw [discardForCheck_eq]
      split
      · exact { hwritten with }
      · exact hwritten

theorem checkSent_beginRegion (i : Idx) (r : CheckRun) (p : Part) : CheckSent r p (beginRegion i r p) := by
  unfold beginRegion
  split
  · exact { checkSent_setCheck { r with current := i } p with }
  · exact { checkSent_issueCheck _ p with }

/-! ### The expiry of the INIT timer (R139) -/

section Expiry

variable {s : State}

theorem yields_initTimerExpiry_stopped (ht : s.sup.initTimer = false) : Yields .initTimerExpiry s s.toPart := by
  have h : Yields .initTimerExpiry s (initExpiry s.toPart) := rfl
  rwa [initExpiry, if_neg (by simp [ht])] at h

theorem yields_initTimerExpiry (hm : s.sup.mode = .init) (ht : s.sup.initTimer = true) :
    Yields .initTimerExpiry s
      (if s.sup.settled then endInit { s.toPart with sup := { s.sup with initTimer := false } }
        else { s.toPart with sup := { s.sup with initTimer := false } }) := by
  have h : Yields .initTimerExpiry s (initExpiry s.toPart) := rfl
  rwa [initExpiry, if_pos ⟨hm, ht⟩] at h

end Expiry

/-- Settles O52: the expiry ends INIT once the settings are settled, in the mode that R140 chooses. -/
theorem initEndsInTheChosenMode : Obligations.InitEndsInTheChosenMode := by
  refine ⟨?_, fun s hm ht hs => ?_⟩
  · rintro s p hm rfl
    refine ⟨yields_initTimerExpiry_stopped, fun ht => ?_⟩
    have hy := yields_initTimerExpiry hm ht
    refine ⟨fun hs => ?_, fun hs => ?_⟩
    · rwa [hs, if_neg (by simp)] at hy
    · rw [hs, if_pos rfl, endInit] at hy
      refine ⟨fun h => ?_, fun hb ha => ⟨fun hc => ?_, fun h => ?_⟩⟩
      · rwa [chooseMode_idle (by exact h)] at hy
      · rintro ⟨i, g, hg, hcheck⟩
        obtain ⟨j, rest, hr⟩ := List.exists_cons_of_ne_nil (List.ne_nil_of_mem (mem_checkRegions.mpr ⟨g, hg, hcheck⟩))
        rw [chooseMode_check (by exact hb) (by exact ha) (by exact hc) (by exact hr)] at hy
        have hsent := checkSent_beginRegion j (autoRun s.sst.settings.autocheck.kind j rest)
          (autoChecking s.sst.settings.autocheck.kind
            (raise 800 none [.word s.sup.cause.name, .word s.sst.source.name]
              { s.toPart with sup := { s.sup with initTimer := false } }))
        obtain ⟨x, hmck, horigin, htag, hpasses, hpass, hstop, hasked, hregions⟩ := hsent.run
        refine ⟨_, hy, hsent.sup, ⟨x, hmck, horigin, htag, hpasses, hpass, hstop, ?_, ?_, fun i => ?_⟩, hsent.sre, hsent.rlu, hsent.sst,
          hsent.spc, hsent.tgt⟩
        · rw [hasked]
          cases h : s.sst.settings.autocheck <;> simp [autoRun, AutoCheck.kind]
        · rw [hasked]
          cases h : s.sst.settings.autocheck <;> simp [autoRun, AutoCheck.kind]
        · rw [hregions]
          change i ∈ j :: rest ↔ _
          rw [← hr]
          exact mem_checkRegions
      · rwa [chooseMode_search (by exact hb) (by exact ha) (by exact h)] at hy
  · have hy := yields_initTimerExpiry hm ht
    rw [hs, if_pos rfl] at hy
    exact ⟨_, hy, initEnds_endInit _⟩

/-- Settles O51: the newest valid copy or the defaults in force, and INIT ended when its timer has expired. -/
theorem settingsSettleToTheNewestCopy : Obligations.SettingsSettleToTheNewestCopy := by
  intro s hm hs chosen source g h
  have hy : Yields .settingsSettled s (settle s.toPart) := rfl
  have hchosen : Chosen s.sst chosen source g := by
    obtain ⟨ha, hb, rfl, rfl, rfl⟩ | ⟨a, ha, hb, rfl, rfl, rfl⟩ | ⟨b, hb, ha, rfl, rfl, rfl⟩ := h
    · exact .defaults ha hb
    · exact .a a ha hb
    · exact .b b hb ha
  rw [settle_chosen (by exact hm) (by exact hs) (by exact hchosen)] at hy
  refine ⟨fun ht => ?_, ?_⟩
  · rw [if_pos (by exact ht)] at hy
    exact ⟨_, hy, rfl, rfl, rfl, rfl, rfl, rfl, rfl, rfl, rfl, rfl⟩
  · rintro ht q rfl
    rw [if_neg (by simp [ht])] at hy
    exact ⟨_, hy, initEnds_endInit _⟩

end Sys2Proof.Proofs

/-! PROOFS. The handoff record's layout, and the soundness of the volume classifier (Loading and Staging; Volume Headers, Images and
Classification). -/

namespace Sys2Proof.Proofs
open Sys2Proof Sys2Proof.Machine

/-! ### A layout of integers (00_scope.md section 5.2) -/

/-- The bytes of integers one after another, each with its width and its value. -/
def layout (l : List (Nat × Nat)) : List Byte := l.flatMap fun x => leBytes x.1 x.2

theorem layout_cons (n v : Nat) (l : List (Nat × Nat)) : layout ((n, v) :: l) = leBytes n v ++ layout l := List.flatMap_cons

theorem length_layout (l : List (Nat × Nat)) : (layout l).length = (l.map Prod.fst).sum := by
  induction l with
  | nil => rfl
  | cons x l ih => rw [layout_cons, List.length_append, length_leBytes, ih, List.map_cons, List.sum_cons]

theorem field_layout_first (n v : Nat) (l : List (Nat × Nat)) (after : List Byte) :
    field (layout ((n, v) :: l) ++ after) 0 n = v % 256 ^ n := by
  rw [layout_cons, List.append_assoc, field, List.drop_zero, List.take_left' (length_leBytes n v), leValue_leBytes]

theorem field_layout_later {m pos : Nat} (h : m ≤ pos) (w n : Nat) (l : List (Nat × Nat)) (after : List Byte) :
    field (layout ((m, w) :: l) ++ after) pos n = field (layout l ++ after) (pos - m) n := by
  obtain ⟨k, rfl⟩ := Nat.exists_eq_add_of_le h
  rw [layout_cons, List.append_assoc, field, field, ← List.drop_drop, List.drop_left' (length_leBytes m w), Nat.add_sub_cancel_left]

/-! ### The handoff record (R24, R108) -/

/-- The integers of the handoff record before its label. -/
def handoffHead (plan : LoadPlan) (p : Part) : List (Nat × Nat) :=
  [(4, 0x31484B45), (1, 1), (1, plan.reason.code), (1, plan.fields.port.num), (1, plan.fields.unit), (4, plan.image.imageId.toNat),
    (2, p.sre.nextSeq), (1, satSucc 0xFF p.sre.releaseCount), (1, plan.image.kind.code), (2, defectTotal p.mck), (2, 0),
    (4, ((p.sre.spent.getLast?.map CandidateKey.imageId).getD 0).toNat)]

theorem handoffBody_eq (plan : LoadPlan) (p : Part) :
    handoffBody plan p = layout (handoffHead plan p) ++ (plan.image.label.getD (List.replicate 12 0) ++ List.replicate 24 0) := by
  rw [← List.append_assoc]
  rfl

section Handoff

variable {plan : LoadPlan} {label : List Byte}

theorem length_handoffBody (hl : plan.image.label = some label) (h12 : label.length = 12) (p : Part) :
    (handoffBody plan p).length = 60 := by
  rw [handoffBody_eq, hl, List.length_append, List.length_append, length_layout, Option.getD_some, h12, List.length_replicate]
  rfl

/-- The fields that HAND reports, as the record carries them. -/
theorem field_handoffRecord (plan : LoadPlan) (p : Part) :
    field (handoffRecord plan p) 5 1 = plan.reason.code % 256 ∧ field (handoffRecord plan p) 6 1 = plan.fields.port.num % 256 ∧
      field (handoffRecord plan p) 7 1 = plan.fields.unit % 256 ∧
      field (handoffRecord plan p) 8 4 = plan.image.imageId.toNat % 256 ^ 4 ∧
      field (handoffRecord plan p) 12 2 = p.sre.nextSeq % 256 ^ 2 ∧
      field (handoffRecord plan p) 14 1 = satSucc 0xFF p.sre.releaseCount % 256 ∧
      field (handoffRecord plan p) 15 1 = plan.image.kind.code % 256 ∧
      field (handoffRecord plan p) 16 2 = defectTotal p.mck % 256 ^ 2 ∧
      field (handoffRecord plan p) 20 4 = ((p.sre.spent.getLast?.map CandidateKey.imageId).getD 0).toNat % 256 ^ 4 := by
  rw [handoffRecord, handoffBody_eq, List.append_assoc, handoffHead]
  refine ⟨?_, ?_, ?_, ?_, ?_, ?_, ?_, ?_, ?_⟩ <;> simp [field_layout_later, field_layout_first]

theorem drop_handoffRecord (hl : plan.image.label = some label) (h12 : label.length = 12) (p : Part) :
    ((handoffRecord plan p).drop 24).take 12 = label := by
  have h24 : (layout (handoffHead plan p)).length = 24 := length_layout _
  rw [handoffRecord, handoffBody_eq, hl, List.append_assoc, List.drop_left' h24, List.append_assoc]
  exact List.take_left' h12

end Handoff

/-- Settles O40: the record is a layout of integers, a label and a CRC, each at its place. -/
theorem handoffRecordsReadBack : Obligations.HandoffRecordsReadBack := by
  intro plan p a label hl h12 hu hseq
  have h60 := length_handoffBody hl h12 p
  obtain ⟨hreason, hport, hunit, hid, hseqField, hcount, hkind, hdefects, hspent⟩ := field_handoffRecord plan p
  have hcrc : field (handoffRecord plan p) 60 4 = (crc32 (handoffBody plan p)).toNat := by
    have h := field_append (n := 4) h60 (crc32 (handoffBody plan p)).isLt []
    rwa [List.append_nil] at h
  refine ⟨?_, ?_, rfl, ?_⟩
  · rw [handoffRecord, List.length_append, h60, wordBytes, length_leBytes]
  · rw [hcrc, handoffRecord, List.take_left' h60]
  · have hkindWord : portKindWord (plan.image.kind.code % 256) = plan.image.kind.name := by
      cases plan.image.kind <;> rfl
    have hportNum : plan.fields.port.num % 256 = plan.fields.port.num := by
      cases plan.fields.port <;> rfl
    have hcountNum : satSucc 0xFF p.sre.releaseCount % 256 =
        if p.sre.releaseCount < 0xFF then p.sre.releaseCount + 1 else p.sre.releaseCount % 0x100 := by
      rw [satSucc]
      split <;> omega
    have hspentNum : ((p.sre.spent.getLast?.map CandidateKey.imageId).getD 0).toNat =
        (p.sre.spent.getLast?.map fun k => k.imageId.toNat).getD 0 := by
      cases p.sre.spent.getLast? <;> rfl
    have hword : ∀ w : Word32, w.toNat % 256 ^ 4 = w.toNat := fun w => Nat.mod_eq_of_lt w.isLt
    have hdefectsNum : defectTotal p.mck % 256 ^ 2 = min 0xFFFF (p.mck.defects.length + p.mck.dropped) :=
      Nat.mod_eq_of_lt (by rw [defectTotal]; omega)
    rw [handFields]
    dsimp only
    rw [hreason, hport, hunit, hid, hseqField, hcount, hkind, hdefects, hspent, drop_handoffRecord hl h12, hkindWord,
      hportNum, hcountNum, hword, hword, hspentNum, hdefectsNum, Nat.mod_eq_of_lt (by omega : plan.fields.unit < 256),
      Nat.mod_eq_of_lt (by omega : p.sre.nextSeq < 256 ^ 2)]
    cases plan.reason <;> rfl

/-! ### The placement of segments (R29 to R31) -/

/-- A range lies in one LOAD region that is not DEFECTIVE, that of its first address (R30, R31). -/
def Placed (v : MapView) (a length : Nat) : Prop :=
  ∃ i r, regionAt v.map a = some i ∧ v.map.get i = some r ∧ r.load = true ∧ r.base ≤ a ∧ a + length ≤ r.base + r.size ∧
    v.health.get i ≠ .defective

theorem placed_of_loadRegion {v : MapView} {a length : Nat} (hl : (loadRegion v.map a length).isSome = true)
    (hd : isDefective v a = false) : Placed v a length := by
  unfold loadRegion at hl
  split at hl
  · cases hl
  · rename_i i hi
    split at hl
    · cases hl
    · rename_i r hr
      split at hl
      · rename_i h
        have hholds := List.find?_some hi
        simp only [hr, Option.map_some, Option.getD_some, Region.holds, Bool.and_eq_true, decide_eq_true_eq] at hholds
        simp only [isDefective, hi, decide_eq_false_iff_not] at hd
        exact ⟨i, r, hi, hr, h.1, hholds.1, h.2, hd⟩
      · cases hl

theorem firstOutside_eq_none {map : Eight (Option Region)} {ds : List (Nat × Descriptor)} (h : firstOutside map ds = none) :
    ∀ x ∈ ds, (loadRegion map x.2.target x.2.length).isSome = true := by
  induction ds with
  | nil => exact fun x hx => absurd hx List.not_mem_nil
  | cons y ds ih =>
    rw [firstOutside] at h
    split at h
    · cases h
    · rename_i hy
      intro x hx
      obtain rfl | hx := List.mem_cons.mp hx
      · simpa [Option.isSome_iff_ne_none] using hy
      · exact ih h x hx

/-- Two segments share no address. -/
def Apart (d e : Descriptor) : Prop := d.target + d.length ≤ e.target ∨ e.target + e.length ≤ d.target

theorem apart_of_not_overlap {d e : Descriptor} (h : rangesOverlap d.target d.length e.target e.length = false) : Apart d e := by
  simp only [rangesOverlap, Bool.and_eq_false_iff, decide_eq_false_iff_not] at h
  unfold Apart
  omega

theorem firstOverlap_eq_none {before : List Descriptor} {ds : List (Nat × Descriptor)} (h : firstOverlap before ds = none) :
    (∀ b ∈ before, ∀ x ∈ ds, Apart b x.2) ∧ ds.Pairwise fun x y => Apart x.2 y.2 := by
  induction ds generalizing before with
  | nil => exact ⟨fun _ _ x hx => absurd hx List.not_mem_nil, .nil⟩
  | cons y ds ih =>
    rw [firstOverlap] at h
    split at h
    · cases h
    · rename_i hy
      obtain ⟨hbefore, hpairs⟩ := ih h
      refine ⟨fun b hb x hx => ?_, .cons (fun x hx => hbefore y.2 List.mem_cons_self x hx) hpairs⟩
      obtain rfl | hx := List.mem_cons.mp hx
      · refine apart_of_not_overlap ?_
        simp only [List.any_eq_true, not_exists, not_and, Bool.not_eq_true] at hy
        exact hy b hb
      · exact hbefore b (List.mem_cons_of_mem _ hb) x hx

/-- What the placement checks let through (R30, R31). -/
structure FitsMap (v : MapView) (ds : List (Nat × Descriptor)) (h : Nat) : Prop where
  placed : ∀ x ∈ ds, Placed v x.2.target x.2.length
  apart : ds.Pairwise fun x y => Apart x.2 y.2
  handoff : h ≠ 0 → Placed v h 64 ∧ ∀ x ∈ ds, h + 64 ≤ x.2.target ∨ x.2.target + x.2.length ≤ h

theorem fitsMap_of_placementFault {v : MapView} {ds : List (Nat × Descriptor)} {h : Nat} {id : Word32}
    (hf : placementFault v ds h id = none) : FitsMap v ds h := by
  unfold placementFault at hf
  split at hf
  · cases hf
  · rename_i hout
    split at hf
    · cases hf
    · rename_i hover
      split at hf
      · cases hf
      · rename_i hplace
        split at hf
        · cases hf
        · rename_i hgood
          split at hf
          · cases hf
          · rename_i hgoodHandoff
            have hload := firstOutside_eq_none hout
            rw [List.find?_eq_none] at hgood
            refine ⟨fun x hx => placed_of_loadRegion (hload x hx) (by simpa using hgood x hx), (firstOverlap_eq_none hover).2, fun hh => ?_⟩
            simp only [handoffPlaced, Classical.not_not, Bool.or_eq_true, decide_eq_true_eq, hh, false_or, Bool.and_eq_true] at hplace
            obtain ⟨hin, hfree⟩ := hplace
            refine ⟨placed_of_loadRegion hin (by simpa [hh] using hgoodHandoff), fun x hx => ?_⟩
            simp only [Bool.not_eq_true', List.any_eq_false] at hfree
            exact apart_of_not_overlap (d := ⟨h, 64, 0, 0⟩) (by simpa [Config.handoffBytes] using hfree x hx)

theorem placementFault_volume {v : MapView} {ds : List (Nat × Descriptor)} {h : Nat} {id : Word32} {c : Classification}
    (hf : placementFault v ds h id = some c) : c.volume ≠ .bootable := by
  unfold placementFault at hf
  repeat' split at hf
  all_goals cases hf
  all_goals nofun

/-! ### The structure of a header (R29) -/

theorem firstSegmentFault_eq_none {capacity : Nat} {ds : List (Nat × Descriptor)} (h : firstSegmentFault capacity ds = none) :
    ∀ x ∈ ds, segmentFault capacity x.2 = none := by
  induction ds with
  | nil => exact fun x hx => absurd hx List.not_mem_nil
  | cons y ds ih =>
    rw [firstSegmentFault] at h
    split at h
    · cases h
    · rename_i hy
      intro x hx
      obtain rfl | hx := List.mem_cons.mp hx
      · exact hy
      · exact ih h x hx

theorem segmentFault_eq_none {capacity : Nat} {d : Descriptor} (h : segmentFault capacity d = none) :
    d.target % 4 = 0 ∧ d.length % 4 = 0 ∧ 4 ≤ d.length := by
  unfold segmentFault at h
  split at h
  · cases h
  · split at h
    · cases h
    · omega

/-- What the structural checks let through (R29). -/
structure WellFormed (block : List Byte) : Prop where
  count : 1 ≤ (descriptors block).length ∧ (descriptors block).length ≤ 8
  words : ∀ x ∈ descriptors block, x.2.target % 4 = 0 ∧ x.2.length % 4 = 0 ∧ 4 ≤ x.2.length
  entry : ∃ x ∈ descriptors block, x.2.target ≤ field block 12 4 ∧ field block 12 4 < x.2.target + x.2.length
  handoff : field block 16 4 % 4 = 0

theorem wellFormed_of_structuralFault {block : List Byte} {capacity : Nat} (h : structuralFault block capacity = none) :
    WellFormed block := by
  unfold structuralFault at h
  dsimp only at h
  split at h
  · cases h
  · split at h
    · cases h
    · rename_i hcount
      split at h
      · cases h
      · rename_i hsegments
        split at h
        · cases h
        · rename_i hentry
          split at h
          · cases h
          · rename_i hhandoff
            refine ⟨by omega, fun x hx => segmentFault_eq_none (firstSegmentFault_eq_none hsegments x hx), ?_, by omega⟩
            simpa [inRange] using hentry

/-! ### Images -/

/-- An image that fits the memory map: its segments, its entry and its handoff range (R29 to R33). -/
def ImageFits (v : MapView) (i : Image) : Prop :=
  1 ≤ i.segments.length ∧ i.segments.length ≤ 8 ∧
    (∀ g ∈ i.segments, g.target % 4 = 0 ∧ g.length % 4 = 0 ∧ 4 ≤ g.length ∧
      ∃ r, v.map.get g.region = some r ∧ r.load = true ∧ r.base ≤ g.target ∧ g.target + g.length ≤ r.base + r.size ∧
        v.health.get g.region ≠ .defective) ∧
    i.segments.Pairwise (fun g h => g.target + g.length ≤ h.target ∨ h.target + h.length ≤ g.target) ∧
    (∃ g ∈ i.segments, g.target ≤ i.entry ∧ i.entry < g.target + g.length) ∧
    ∀ h, i.handoff = some h → h % 4 = 0 ∧ ∃ j r, v.map.get j = some r ∧ r.load = true ∧ r.base ≤ h ∧ h + 64 ≤ r.base + r.size ∧
      v.health.get j ≠ .defective ∧ ∀ g ∈ i.segments, h + 64 ≤ g.target ∨ g.target + g.length ≤ h

theorem segment_placed {v : MapView} {d : Descriptor} (h : Placed v d.target d.length) (raw : Bool) (k : Nat) :
    ∃ r, v.map.get (segmentRecord v.map raw k d).region = some r ∧ r.load = true ∧ r.base ≤ d.target ∧
      d.target + d.length ≤ r.base + r.size ∧ v.health.get (segmentRecord v.map raw k d).region ≠ .defective := by
  obtain ⟨i, r, hi, hr, hload, hbase, hend, hgood⟩ := h
  have hregion : (segmentRecord v.map raw k d).region = i := by rw [segmentRecord, hi, Option.getD_some]
  rw [hregion]
  exact ⟨r, hr, hload, hbase, hend, hgood⟩

/-- Descriptors that fit the map make an image that does. -/
theorem imageFits_of_descriptors {v : MapView} {ds : List (Nat × Descriptor)} {h : Nat} {raw : Bool} {i : Image} (hfits : FitsMap v ds h)
    (hcount : 1 ≤ ds.length ∧ ds.length ≤ 8) (hwords : ∀ x ∈ ds, x.2.target % 4 = 0 ∧ x.2.length % 4 = 0 ∧ 4 ≤ x.2.length)
    (hsegments : i.segments = ds.map fun x => segmentRecord v.map raw x.1 x.2)
    (hentry : ∃ x ∈ ds, x.2.target ≤ i.entry ∧ i.entry < x.2.target + x.2.length)
    (hhandoff : ∀ k, i.handoff = some k → k = h ∧ h ≠ 0 ∧ h % 4 = 0) : ImageFits v i := by
  unfold ImageFits
  rw [hsegments, List.length_map]
  refine ⟨hcount.1, hcount.2, ?_, List.pairwise_map.mpr hfits.apart, ?_, ?_⟩
  · intro g hg
    obtain ⟨x, hx, rfl⟩ := List.mem_map.mp hg
    obtain ⟨htarget, hlength, hfour⟩ := hwords x hx
    exact ⟨htarget, hlength, hfour, segment_placed (hfits.placed x hx) raw x.1⟩
  · obtain ⟨x, hx, hin⟩ := hentry
    exact ⟨_, List.mem_map_of_mem hx, hin⟩
  · intro k hk
    obtain ⟨rfl, hne, hal⟩ := hhandoff k hk
    obtain ⟨⟨j, r, -, hr, hload, hbase, hend, hgood⟩, hfree⟩ := hfits.handoff hne
    refine ⟨hal, j, r, hr, hload, hbase, hend, hgood, fun g hg => ?_⟩
    obtain ⟨x, hx, rfl⟩ := List.mem_map.mp hg
    exact hfree x hx

theorem classifyHeader_bootable {rq : ClassifyRequest} {v : MapView} (h : (classifyHeader rq v).volume = .bootable) :
    ∃ i, (classifyHeader rq v).image = some i ∧ ImageFits v i := by
  unfold classifyHeader at h ⊢
  dsimp only at h ⊢
  split at h <;> rename_i hsignature
  · split at h <;> cases h
  rw [if_neg hsignature]
  split at h <;> rename_i hcrc
  · cases h
  rw [if_neg hcrc]
  split at h <;> rename_i hversion
  · cases h
  rw [if_neg hversion]
  split at h <;> rename_i hclass
  · cases h
  rw [if_neg hclass]
  split at h <;> rename_i hdata
  · cases h
  rw [if_neg hdata]
  split at h <;> rename_i hstructure
  · cases h
  split at h <;> rename_i hplacement
  · exact absurd h (placementFault_volume hplacement)
  have hwell := wellFormed_of_structuralFault hstructure
  refine ⟨_, rfl, imageFits_of_descriptors (fitsMap_of_placementFault hplacement) hwell.count hwell.words rfl hwell.entry fun k hk => ?_⟩
  simp only [headerImage] at hk
  split at hk
  · cases hk
  · cases hk
    exact ⟨rfl, ‹_›, hwell.handoff⟩

theorem classifyRaw_bootable {rq : ClassifyRequest} {v : MapView} {rawbase rawblocks : Nat} (hb : rawbase % 0x1000 = 0)
    (hn : 1 ≤ rawblocks) (h : (classifyRaw rq v rawbase rawblocks).volume = .bootable) :
    ∃ i, (classifyRaw rq v rawbase rawblocks).image = some i ∧ ImageFits v i := by
  unfold classifyRaw at h ⊢
  split at h <;> rename_i hcapacity
  · cases h
  rw [if_neg hcapacity]
  split at h <;> rename_i hplacement
  · exact absurd h (placementFault_volume hplacement)
  have hwords : rawbase % 4 = 0 ∧ rawblocks * 512 % 4 = 0 ∧ 4 ≤ rawblocks * 512 := by omega
  refine ⟨_, rfl, imageFits_of_descriptors (fitsMap_of_placementFault hplacement) (by simp) (by simpa [rawDescriptor] using hwords) rfl
    ⟨_, List.mem_singleton_self _, Nat.le_refl _, ?_⟩ nofun⟩
  change rawbase < rawbase + rawblocks * 512
  omega

/-- Settles O38: the checks of a header-built volume and of a raw candidate let only such images through. -/
theorem bootableImagesFitTheMap : Obligations.BootableImagesFitTheMap := by
  intro rq v rawbase rawblocks hb hn h
  unfold classify at h ⊢
  dsimp only at h ⊢
  split at h <;> rename_i hraw
  · rw [if_pos hraw]
    exact classifyRaw_bootable hb hn h
  · rw [if_neg hraw]
    exact classifyHeader_bootable h

end Sys2Proof.Proofs

/-! PROOFS. The abort of the operation that holds the slot (The Start-up Supervisor section 8.5). -/

namespace Sys2Proof.Proofs
open Sys2Proof Sys2Proof.Machine

/-! ### A port operation withdrawn (R10) -/

theorem withdrawEntry_none {e : PortEntry} (h : e.op = none) : withdrawEntry e = e := by
  rw [withdrawEntry, h]

theorem withdrawEntry_some {e : PortEntry} {f : InFlight} (h : e.op = some f) :
    withdrawEntry e = { e with state := .idle, op := none } := by
  rw [withdrawEntry, h]

/-- Two elements that give something leave at least two results. -/
theorem two_le_length_filterMap {α β : Type} {g : α → Option β} {a b : α} {x y : β} (hab : a ≠ b) (hga : g a = some x)
    (hgb : g b = some y) {l : List α} (ha : a ∈ l) (hb : b ∈ l) : 2 ≤ (l.filterMap g).length := by
  induction l with
  | nil => exact absurd ha List.not_mem_nil
  | cons c l ih =>
    obtain rfl | ha' := List.mem_cons.mp ha
    · have hy : y ∈ l.filterMap g := List.mem_filterMap.mpr ⟨b, (List.mem_cons.mp hb).resolve_left hab.symm, hgb⟩
      rw [List.filterMap_cons_some hga, List.length_cons]
      exact Nat.succ_le_succ (List.length_pos_of_mem hy)
    · obtain rfl | hb' := List.mem_cons.mp hb
      · have hx : x ∈ l.filterMap g := List.mem_filterMap.mpr ⟨a, ha', hga⟩
        rw [List.filterMap_cons_some hgb, List.length_cons]
        exact Nat.succ_le_succ (List.length_pos_of_mem hx)
      · exact Nat.le_trans (ih ha' hb') ((List.sublist_cons_self c l).filterMap g).length_le

theorem withdraw_table {p : Part} {t u : Four PortEntry} (ht : p.spc.ports = some t) (h : ∀ x, withdrawEntry (t.get x) = u.get x) :
    withdraw p = { p with spc := { p.spc with ports := some u } } := by
  have hu : u = ⟨withdrawEntry t.p0, withdrawEntry t.p1, withdrawEntry t.p2, withdrawEntry t.p3⟩ := by
    cases u
    exact (congr (congr (congr (congrArg Four.mk (h .sp0)) (h .sp1)) (h .sp2)) (h .sp3)).symm
  rw [withdraw, ht, hu]
  rfl

/-- The one operation in flight is withdrawn. -/
theorem withdraw_one {p : Part} {port : Port} {e : PortEntry} {f : InFlight} (he : entryOf p port = some e) (hf : e.op = some f)
    (hops : operations p = [f]) : withdraw p = setEntry port { e with state := .idle, op := none } p := by
  obtain ⟨t, ht, rfl⟩ := Option.map_eq_some_iff.mp he
  have hmem : ∀ x : Port, x ∈ Port.all := by
    intro x
    cases x <;> decide
  rw [operations_of_table ht] at hops
  rw [withdraw_table (u := t.set port { t.get port with state := .idle, op := none }) ht, setEntry, ht]
  · rfl
  · intro x
    by_cases hx : x = port
    · subst hx
      rw [Four.get_set_self, withdrawEntry_some hf]
    · rw [Four.get_set_of_ne _ _ hx, withdrawEntry_none]
      refine Classical.byContradiction fun hop => ?_
      obtain ⟨g, hg⟩ := Option.ne_none_iff_exists'.mp hop
      have htwo := two_le_length_filterMap (g := fun x => (t.get x).op) hx hg hf (hmem x) (hmem port)
      rw [hops] at htwo
      exact absurd htwo (by simp)

theorem withdraw_none {p : Part} (hops : operations p = []) : withdraw p = p := by
  cases ht : p.spc.ports with
  | none =>
    rw [withdraw, ht, Option.map_none, ← ht]
  | some t =>
    rw [withdraw_table (u := t) ht, ← ht]
    exact fun x => withdrawEntry_none (op_none_of_operations (port := x) hops (by rw [entryOf, ht]; rfl))

theorem withdraw_of_withdrawn {p q : Part} (h : withdrawn p q) : q = withdraw p := by
  obtain ⟨hops, rfl⟩ | ⟨port, e, f, he, hf, hops, rfl⟩ := h
  · exact (withdraw_none hops).symm
  · exact (withdraw_one he hf hops).symm

/-! ### What an abort leaves alone (R146) -/

/-- What the owner of the slot leaves alone when it gives its operation up. -/
structure OwnerKeeps (p q : Part) : Prop where
  sup : q.sup = p.sup
  rlu : q.rlu = p.rlu
  sst : q.sst = p.sst
  tgt : q.tgt = p.tgt
  txn : q.mmp.txn = p.mmp.txn
  lines : q.con.lines = p.con.lines

section Keeps

variable {p q : Part}

theorem OwnerKeeps.refl (p : Part) : OwnerKeeps p p := ⟨rfl, rfl, rfl, rfl, rfl, rfl⟩

theorem OwnerKeeps.raise (h : OwnerKeeps p q) (code : Nat) (tag : Option Tag) (fs : List Field) : OwnerKeeps p (raise code tag fs q) :=
  { h with lines := (raise_frame q code tag fs).1.trans h.lines }

theorem OwnerKeeps.appendRecord (h : OwnerKeeps p q) (tag : Option Tag) (f : AttemptFields) (o : AttemptOutcome) (d : Option Nat)
    (i : Option Word32) : OwnerKeeps p (appendRecord tag f o d i q) := by
  have hlogged : OwnerKeeps p { q with sre := logged f o d i q.sre } := ⟨h.sup, h.rlu, h.sst, h.tgt, h.txn, h.lines⟩
  exact hlogged.raise _ _ _

theorem OwnerKeeps.reply (h : OwnerKeeps p q) (r : Record) : OwnerKeeps p (replyRecord r q) :=
  { h with lines := (arbitrateConsole_frame _).2.2.2.2.trans h.lines }

theorem OwnerKeeps.abortLoad (h : OwnerKeeps p q) (plan : LoadPlan) : OwnerKeeps p (abortLoad plan q) :=
  (h.appendRecord _ _ _ _ _).raise _ _ _

theorem OwnerKeeps.withdraw (h : OwnerKeeps p q) : OwnerKeeps p (withdraw q) := { h with }

theorem OwnerKeeps.withdrawQuestion (h : OwnerKeeps p q) : OwnerKeeps p (withdrawQuestion q) := by
  unfold Machine.withdrawQuestion
  split
  · exact h
  · have hended : OwnerKeeps p (endQuestion q) := ⟨h.sup, h.rlu, h.sst, h.tgt, h.txn, h.lines⟩
    exact hended.raise _ _ _

theorem OwnerKeeps.endAbortedCheck (h : OwnerKeeps p q) (r : CheckRun) : OwnerKeeps p (endAbortedCheck r q) := by
  unfold Machine.endAbortedCheck
  dsimp only
  split
  · exact { OwnerKeeps.raise (q := setHealth r.current .defective q) { h with } _ _ _ with }
  · exact { h.raise _ _ _ with }

theorem OwnerKeeps.abortRun (h : OwnerKeeps p q) : OwnerKeeps p (abortRun q) := by
  unfold Machine.abortRun
  split
  · exact h
  · rename_i r hr
    cases r.stage with
    | probing => exact { h.withdraw.appendRecord _ _ _ _ _ with }
    | block0 c => exact { h.withdraw.appendRecord _ _ _ _ _ with }
    | question => exact { h.withdrawQuestion.appendRecord _ _ _ _ _ with }
    | waiting => exact { h with }
    | loading =>
      dsimp only
      split
      · exact { h.withdraw.abortLoad _ with }
      · exact { h with }

theorem ownerKeeps_abortOwner (p : Part) : OwnerKeeps p (abortOwner p) := by
  have h := OwnerKeeps.refl p
  unfold abortOwner
  split
  · exact h.endAbortedCheck _
  · exact h.abortRun
  · exact h.withdraw.reply _
  · exact h.withdraw.reply _
  · exact h.reply _
  · split
    · exact h.withdraw.abortLoad _
    · exact h
  · exact (h.withdraw.appendRecord _ _ _ _ _).raise _ _ _
  · exact h
  · exact h

/-- The part once its owner has given up, in the mode in which the operation ran. -/
theorem endAbort_eq (h : OwnerKeeps p q) (ht : p.rlu.treset = .asserted) {ended : Part → Part}
    (he : (∃ phase, p.sup.mode = .auto phase ∧ ∀ q, ended q = raise 801 p.sup.runTag [.word phase.name] (slotGivenBack q)) ∨
      (∃ v, p.sup.mode = .manual (some v) ∧ ∀ q, ended q = slotGivenBack q)) : endAbort q = ended q := by
  have hheld : goIdle { q with rlu := { q.rlu with treset := .asserted } } = slotGivenBack q := by
    have hrlu : { q.rlu with treset := .asserted } = q.rlu := by
      rw [h.rlu]
      cases hr : p.rlu
      rw [hr] at ht
      cases ht
      rfl
    rw [hrlu]
    rfl
  unfold endAbort
  dsimp only
  rw [hheld, h.sup]
  obtain ⟨phase, hm, he⟩ | ⟨v, hm, he⟩ := he
  · rw [hm, he]
  · rw [hm, he]

end Keeps

theorem abortOperation_free {p : Part} (h : p.mmp.txn = none) : abortOperation p = endAbort (abortOwner p) := by
  rw [abortOperation, h]

theorem abortOperation_waits {p : Part} (h : p.mmp.txn ≠ none) :
    abortOperation p = { p with sup := { p.sup with abortPending := true } } := by
  obtain ⟨t, ht⟩ := Option.ne_none_iff_exists'.mp h
  rw [abortOperation, ht]

/-! ### What each owner does (R21, R37, R55, R64, R81, R95, R111, R114) -/

section Owner

variable {p : Part}

theorem abortOwner_check {r : CheckRun} (hr : p.mck.run = some r) : abortOwner p = endAbortedCheck r p := by
  rw [abortOwner, hr]

theorem abortOwner_search {r : SearchRun} (hc : p.mck.run = none) (hr : p.sre.run = some r) : abortOwner p = abortRun p := by
  rw [abortOwner, hc, hr]

theorem endAbortedCheck_eq (r : CheckRun) (p : Part) :
    endAbortedCheck r p =
      { raise 503 r.tag [.num r.pass, .num (min 0xFFFF (p.mck.defects.length + p.mck.dropped))]
          (if r.current ∈ r.marks then { p with mmp := { p.mmp with health := p.mmp.health.set r.current .defective } } else p) with
        mck := { p.mck with run := none } } := by
  unfold endAbortedCheck
  dsimp only
  split <;> rfl

section Search

variable {r : SearchRun} (hr : p.sre.run = some r)

include hr

theorem abortRun_waiting (hs : r.stage = .waiting) : abortRun p = runOver p := by
  rw [abortRun, hr]
  dsimp only
  rw [hs]
  rfl

theorem abortRun_loading {plan : LoadPlan} (hs : r.stage = .loading) (hp : p.ldr.plan = some plan) :
    abortRun p = runOver (abortLoad plan (withdraw p)) := by
  rw [abortRun, hr]
  dsimp only
  rw [hs]
  dsimp only
  rw [hp]
  rfl

variable {e : BootEntry} (h1 : 1 ≤ r.entry) (he : p.sst.settings.order[r.entry - 1]? = some e)

include h1 he

theorem abortRun_exchange (hs : r.stage = .probing ∨ ∃ c, r.stage = .block0 c) :
    abortRun p = runOver (records r.tag ⟨r.round, r.entry, e.port, r.unit⟩ .aborted none none (withdraw p)) := by
  have hrecord := appendRunRecord_run (p := withdraw p) hr (currentEntry_run (by exact hr) h1 (by exact he)) .aborted none none
  rw [← hrecord, abortRun, hr]
  dsimp only
  obtain hs | ⟨c, hs⟩ := hs
  · rw [hs]
    rfl
  · rw [hs]
    rfl

theorem abortRun_question (hs : r.stage = .question) {h : HeldBlock} {x : Question} (hh : r.held = some h)
    (hx : p.sre.question = some x) :
    abortRun p =
      runOver (records r.tag ⟨r.round, r.entry, e.port, r.unit⟩ .aborted none h.imageId
        (raise 411 r.tag [.num x.id]
          { p with
            sre := { p.sre with question := none, questionTimer := none, run := some { r with held := none } }
            con := { p.con with question := none } })) := by
  have hwithdrawn : withdrawQuestion p = raise 411 r.tag [.num x.id]
      { p with
        sre := { p.sre with question := none, questionTimer := none, run := some { r with held := none } }
        con := { p.con with question := none } } := by
    rw [withdrawQuestion, hx]
    dsimp only
    rw [runTagOf, hr, endQuestion, setSre, hr]
    rfl
  have hrecord := appendRunRecord_run (r := { r with held := none }) (p := withdrawQuestion p) (by rw [hwithdrawn]; rfl)
    (currentEntry_run (r := { r with held := none }) (by rw [hwithdrawn]; rfl) h1 (by rw [hwithdrawn]; exact he)) .aborted none
    h.imageId
  rw [← hwithdrawn, ← hrecord, abortRun, hr]
  dsimp only
  rw [hs, hh]
  rfl

end Search

section Verb

variable (hc : p.mck.run = none) (hr : p.sre.run = none)

include hc hr

theorem abortOwner_probe {tag : Option Tag} {port : Port} {unit : Nat} (hv : p.sup.verbRun = some (.probe tag port unit)) :
    abortOwner p = replyRecord (accepted 0 tag [.num port.num, .num unit, .word "ABORTED"]) (withdraw p) := by
  rw [abortOwner, hc, hr, hv]

theorem abortOwner_volume {tag : Option Tag} {port : Port} {unit : Nat} {capacity : Option Nat}
    (hv : p.sup.verbRun = some (.volume tag port unit capacity)) :
    abortOwner p = replyRecord (multiLine tag [[.num port.num, .num unit, .word "ABORTED"]]) (withdraw p) := by
  rw [abortOwner, hc, hr, hv]

theorem abortOwner_peek {tag : Option Tag} {a left : Nat} {words : List (Nat × PeekWord)}
    (hv : p.sup.verbRun = some (.peek tag a left words)) :
    abortOwner p =
      replyRecord (multiLine tag (words.map peekLine ++ [[.word "ABORTED"]])) p := by
  rw [abortOwner, hc, hr, hv]

theorem abortOwner_start {boot : Bool} {tag : Option Tag} {port : Port} {unit : Nat} {raw : Bool} {stage : StartStage}
    (hv : p.sup.verbRun = some (.start boot tag port unit raw stage)) (hs : stage ≠ .loading) :
    abortOwner p = abortStart tag port unit p := by
  rw [abortOwner, hc, hr, hv]
  cases stage with
  | loading => exact absurd rfl hs
  | probing => rfl
  | block0 c => rfl

theorem abortOwner_startLoading {boot : Bool} {tag : Option Tag} {port : Port} {unit : Nat} {raw : Bool} {plan : LoadPlan}
    (hv : p.sup.verbRun = some (.start boot tag port unit raw .loading)) (hp : p.ldr.plan = some plan) :
    abortOwner p = abortLoad plan (withdraw p) := by
  rw [abortOwner, hc, hr, hv]
  dsimp only
  rw [hp]

end Verb

end Owner

theorem replyRecord_behind {p : Part} (h : p.con.tx ≠ none) (r : Record) : replyRecord r p = answersBehind r p := by
  obtain ⟨i, hi⟩ := Option.ne_none_iff_exists'.mp h
  exact reply_busy hi _

/-! ### An abort that waited for its transaction (R77, R81) -/

section Pending

variable {p : Part} (ha : p.sup.abortPending = true)

include ha

/-- The outcome of a check's transaction under an abort, with what it shows. -/
theorem checkerOutcome_pending {r : CheckRun} (hr : p.mck.run = some r) (o : TxnOutcome) :
    checkerOutcome o p = endAbort (abortOwner (checkAbortOutcome o r p)) := by
  simp only [checkerOutcome, hr, if_pos ha]

theorem loadOutcome_pending (o : TxnOutcome) (a : Nat) : loadOutcome o a p = endAbort (abortOwner (loaderAbortOutcome o a p)) := by
  rw [loadOutcome, if_pos ha]

theorem peekOutcome_pending {tag : Option Tag} {a left : Nat} {words : List (Nat × PeekWord)}
    (hv : p.sup.verbRun = some (.peek tag a left words)) (o : TxnOutcome) :
    peekOutcome o p = endAbort (abortOwner (setVerbRun (.peek tag a left (words ++ [(a, peekWordOf o)])) p)) := by
  simp only [peekOutcome, hv, if_pos ha]

end Pending

/-- A word of a check judged under an abort: its defect is kept and marks its region. -/
theorem checkAbortOutcome_finds {o : TxnOutcome} {r : CheckRun} {d : Option Defect} (h : judgeCheck r o = findingOf d) {p : Part}
    (hr : p.mck.run = some r) :
    checkAbortOutcome o r p = { p with mck := { defectKept d p.mck with run := some (marked d r) } } := by
  rw [checkAbortOutcome, h]
  cases d with
  | none =>
    change p = { p with mck := { p.mck with run := some r } }
    rw [← hr]
  | some d =>
    unfold recordDefect defectKept findingOf
    rfl

theorem checkAbortOutcome_first {o : TxnOutcome} {r : CheckRun} {w : Word32} (h : judgeCheck r o = .firstRead w) (p : Part) :
    checkAbortOutcome o r p = p := by
  rw [checkAbortOutcome, h]

/-- The end of the transaction in flight, with its outcome (R76). -/
theorem yields_outcome {s : State} {t : Transaction} (ht : s.mmp.txn = some t) {c : Instr} {w : Word32} {fault : Option TxnOutcome}
    (hc : (c = .memoryResponse true false w ∧ fault = none) ∨ ((∃ mrdy, c = .memoryResponse mrdy true w) ∧ fault = some .busError) ∨
      (c = .responseTimeout ∧ fault = some .noResponse)) :
    ∃ o, Yields c s (txnEnded t o s.toPart) ∧ (fault = none → ∃ v, o = .done v ∧ (t.kind = .read → v = w)) ∧
      ∀ x, fault = some x → o = x := by
  obtain ⟨rfl, rfl⟩ | ⟨⟨mrdy, rfl⟩, rfl⟩ | ⟨rfl, rfl⟩ := hc
  · exact ⟨_, yields_done ht w, fun _ => ⟨_, rfl, fun hk => by rw [hk]⟩, nofun⟩
  · exact ⟨_, yields_busError ht mrdy w, nofun, fun x hx => Option.some.inj hx⟩
  · exact ⟨_, yields_noResponse ht, nofun, fun x hx => Option.some.inj hx⟩

/-! ### The part after an abort (R146, R147) -/

/-- What the abort of an operation leaves: the slot empty, nothing in progress, the rest as it was. -/
structure Aborted (p t : Part) : Prop where
  sup : t.sup = { p.sup with mode := .manual none, slot := none, runTag := none, verbRun := none }
  runs : nothingRuns t = true
  operations : operations t = []
  rlu : t.rlu = p.rlu
  sst : t.sst = p.sst
  tgt : t.tgt = p.tgt
  txn : t.mmp.txn = none
  lines : t.con.lines = p.con.lines

theorem halting_of_slotSound {p : Part} (hs : slotSound p = true) (hm : ∀ phase, p.sup.mode ≠ .targetRun phase)
    (ht : p.mmp.txn = none) : Halting p ∧ p.sup.abortPending = false := by
  obtain ⟨hh, hr, hi, -, hw⟩ := slotSound_parts hs
  obtain ⟨htr, hrel, him, hwin, hopen⟩ := held_of_mode hs hm
  obtain ⟨-, ho, ha⟩ | ⟨f, -, ho, hf, ha⟩ | ⟨t, hx, -⟩ := requests_cases hr
  · exact ⟨⟨ht, .inl ho, htr, hrel, hwin, hopen, him, hi, hw, hh⟩, ha⟩
  · exact ⟨⟨ht, .inr ⟨f, ho, hf⟩, htr, hrel, hwin, hopen, him, hi, hw, hh⟩, ha⟩
  · cases ht.symm.trans hx

theorem aborted_slotGivenBack {p : Part} (h : Halting p) (ha : p.sup.abortPending = false) :
    Aborted p (slotGivenBack (abortOwner p)) := by
  have hkeeps := ownerKeeps_abortOwner p
  obtain ⟨hready, hrun, hcheck⟩ := h.abortOwner
  refine ⟨?_, ?_, hready.ops, hkeeps.rlu, hkeeps.sst, hkeeps.tgt, hready.txn, hkeeps.lines⟩
  · change ({ (abortOwner p).sup with
      mode := .manual none, slot := none, runTag := none, abortPending := false, verbRun := none } : Sup) = _
    rw [hkeeps.sup, ← ha]
  · simp only [nothingRuns, slotGivenBack, hrun, hcheck, Option.isNone_none, Bool.and_self]

theorem Aborted.raise {p t : Part} (h : Aborted p t) (code : Nat) (tag : Option Tag) (fs : List Field) : Aborted p (raise code tag fs t) :=
  ⟨h.sup, h.runs, h.operations, h.rlu, h.sst, h.tgt, h.txn, (raise_frame t code tag fs).1.trans h.lines⟩

theorem aborted_abortOperation {p : Part} (h : Halting p) (ha : p.sup.abortPending = false)
    (hm : (∃ phase, p.sup.mode = .auto phase) ∨ ∃ v, p.sup.mode = .manual (some v)) :
    Aborted p (abortOperation p) ∧
      ∀ phase, p.sup.mode = .auto phase → ∃ q, abortOperation p = Machine.raise 801 p.sup.runTag [.word phase.name] q := by
  have hkeeps := ownerKeeps_abortOwner p
  have hgiven := aborted_slotGivenBack h ha
  rw [abortOperation_free h.txn]
  obtain ⟨phase, hm⟩ | ⟨v, hm⟩ := hm
  · have hend := endAbort_eq (ended := fun q => Machine.raise 801 p.sup.runTag [.word phase.name] (slotGivenBack q)) hkeeps h.treset
      (.inl ⟨phase, hm, fun _ => rfl⟩)
    rw [hend]
    refine ⟨hgiven.raise _ _ _, fun phase' hm' => ?_⟩
    cases hm.symm.trans hm'
    exact ⟨_, rfl⟩
  · have hend := endAbort_eq (ended := slotGivenBack) hkeeps h.treset (.inr ⟨v, hm, fun _ => rfl⟩)
    rw [hend]
    exact ⟨hgiven, fun phase' hm' => by cases hm.symm.trans hm'⟩

/-- Settles O12: each owner's end, the mode after it, and the outcome of a transaction that the abort waited for. -/
theorem abortedOperationsEnd : Obligations.AbortedOperationsEnd := by
  refine ⟨fun p hs hm => ⟨fun ht => ?_, abortOperation_waits⟩, fun p ended ht htreset hended => ⟨fun r hr => ?_, fun q hc hq => ?_⟩,
    fun s c a kind w fault hab hc => ⟨?_, ?_, ?_, ?_, ?_⟩⟩
  · have hrun : ∀ phase, p.sup.mode ≠ .targetRun phase := by
      obtain ⟨x, hm⟩ | ⟨x, hm⟩ := hm
      · exact fun phase h => by cases hm.symm.trans h
      · exact fun phase h => by cases hm.symm.trans h
    obtain ⟨hhalting, hab⟩ := halting_of_slotSound hs hrun ht
    obtain ⟨h, hnotice⟩ := aborted_abortOperation hhalting hab hm
    exact ⟨h.sup, h.runs, h.operations, h.rlu, h.sst, h.tgt, h.txn, h.lines, hnotice⟩
  · have hends := fun q h => endAbort_eq (p := p) (q := q) h htreset hended
    rw [abortOperation_free ht, hends _ (ownerKeeps_abortOwner p), abortOwner_check hr, endAbortedCheck_eq]
  · have hends := fun q h => endAbort_eq (p := p) (q := q) h htreset hended
    have hq := withdraw_of_withdrawn hq
    subst hq
    rw [abortOperation_free ht, hends _ (ownerKeeps_abortOwner p)]
    refine ⟨fun r hr => ?_, fun hr => ?_⟩
    · rw [abortOwner_search hc hr]
      refine ⟨fun hst => ?_, fun plan hst hp => ?_, ?_⟩
      · rw [abortRun_waiting hr hst]
      · rw [abortRun_loading hr hst hp]
        rfl
      · rintro e fields h1 he rfl
        refine ⟨fun hst => ?_, fun h x hst hh hx => ?_⟩
        · rw [abortRun_exchange hr h1 he hst]
        · rw [abortRun_question hr h1 he hst hh hx]
    · refine ⟨fun tag port unit hv hrep => ?_, fun tag port unit capacity hv hrep => ?_, fun tag a left words hv hrep => ?_,
        fun tag port unit hv htx => ?_, fun tag port unit capacity hv htx => ?_, fun tag a left words hv htx => ?_,
        fun boot tag port unit raw stage hv => ⟨fun hst => ?_, ?_⟩⟩
      · rw [abortOwner_probe hc hr hv, replyRecord_alone (by exact hrep)]
      · rw [abortOwner_volume hc hr hv, replyRecord_alone (by exact hrep)]
      · rw [abortOwner_peek hc hr hv, replyRecord_alone hrep]
        exact congrArg (fun lines => ended (answers (multiLine tag (lines ++ [[.word "ABORTED"]])) p)) (peekLines_eq words)
      · rw [abortOwner_probe hc hr hv, replyRecord_behind (by exact htx)]
      · rw [abortOwner_volume hc hr hv, replyRecord_behind (by exact htx)]
      · rw [abortOwner_peek hc hr hv, replyRecord_behind htx]
        exact congrArg (fun lines => ended (answersBehind (multiLine tag (lines ++ [[.word "ABORTED"]])) p)) (peekLines_eq words)
      · rw [abortOwner_start hc hr hv hst]
        rfl
      · rintro plan rfl hp
        rw [abortOwner_startLoading hc hr hv hp]
        rfl
  · rintro r ht hr he hf rfl
    obtain ⟨o, hy, hdone, -⟩ := yields_outcome ht hc
    obtain ⟨v, rfl, -⟩ := hdone rfl
    rw [txnEnded, checkerOutcome_pending (by exact hab) (by exact hr), checkAbortOutcome_first (judgeCheck_first he hf)] at hy
    rwa [abortOperation_free (by rfl)]
  · intro r d ht hr hphase hfinds
    obtain ⟨o, hy, ho⟩ := endShows_checkFinds hphase hfinds a s ht
    rw [txnEnded, checkerOutcome_pending (by exact hab) (by exact hr), checkAbortOutcome_finds ho (by exact hr)] at hy
    rwa [abortOperation_free (by rfl)]
  · intro ht
    obtain ⟨o, hy, hdone, hfault⟩ := yields_outcome ht hc
    rw [txnEnded, loadOutcome_pending (by exact hab)] at hy
    refine ⟨fun hnone => ?_, fun i hsome hi => ?_⟩
    · obtain ⟨v, rfl, -⟩ := hdone hnone
      rwa [abortOperation_free (by rfl)]
    · have hmarks : loaderAbortOutcome o a (endTxn s.toPart) =
          { s.toPart with mmp := { health := s.mmp.health.set i .defective, txn := none } } := by
        obtain ⟨x, hx⟩ := Option.ne_none_iff_exists'.mp hsome
        obtain rfl := hfault x hx
        have hdefective := defectiveAt_of_region (p := endTxn s.toPart) hi
        obtain ⟨-, rfl⟩ | ⟨-, rfl⟩ | ⟨-, rfl⟩ := hc
        · cases hx
        · cases hx
          exact hdefective
        · cases hx
          exact hdefective
      rw [hmarks] at hy
      rwa [abortOperation_free (by rfl)]
  · intro tag left words x ht hv hx
    obtain ⟨o, hy, hdone, hfault⟩ := yields_outcome ht hc
    have hword : peekWordOf o = x := by
      simp only [List.mem_cons, Prod.mk.injEq, List.not_mem_nil, or_false] at hx
      obtain ⟨rfl, rfl⟩ | ⟨rfl, rfl⟩ | ⟨rfl, rfl⟩ := hx
      · obtain ⟨v, rfl, hv⟩ := hdone rfl
        rw [hv rfl]
        rfl
      · rw [hfault _ rfl]
        rfl
      · rw [hfault _ rfl]
        rfl
    rw [txnEnded, peekOutcome_pending (by exact hab) (by exact hv), hword] at hy
    rwa [abortOperation_free (by rfl)]
  · intro tag r ht hv hr
    obtain ⟨o, hy, hdone, hfault⟩ := yields_outcome ht hc
    rw [txnEnded, pokeOutcome_poke (by exact hv)] at hy
    have hreply : endPoke tag o (endTxn s.toPart) = slotGivenBack (replyRecord r (endTxn s.toPart)) := by
      simp only [List.mem_cons, Prod.mk.injEq, List.not_mem_nil, or_false] at hr
      obtain ⟨rfl, rfl⟩ | ⟨rfl, rfl⟩ | ⟨rfl, rfl⟩ := hr
      · obtain ⟨v, rfl, -⟩ := hdone rfl
        rfl
      · rw [hfault _ rfl]
        rfl
      · rw [hfault _ rfl]
        rfl
    rw [hreply] at hy
    refine ⟨fun hrep => ?_, fun htx => ?_⟩
    · rwa [replyRecord_alone (by exact hrep)] at hy
    · rwa [replyRecord_behind (by exact htx)] at hy

end Sys2Proof.Proofs
